-- ==== Sys2Proof/Word.lean ====
section
/-! DEFINITION. The word types of the link and of the drive link. Only what the manual treats as bits is a bit vector:
the bytes of the message link (R201), the frame check (R201) and the request numbers of the drive link, which wrap at
65535 (R1). Every other quantity of the manual is an exact integer ("Every quantity the controller computes is an
integer", 00_scope.md, Arithmetic) and is a `Nat` here. -/

namespace Sys2Proof

/-- One byte of a frame of the message link (R201). -/
abbrev Byte := BitVec 8

/-- A 16-bit word: the frame check of R201. -/
abbrev Word16 := BitVec 16

/-- A request number of a drive group, 0–65535, 65535 being followed by 0 (R1). -/
abbrev ReqNo := BitVec 16

end Sys2Proof
end

