-- ==== Sys2Proof/Syntax.lean ====
section
/-! DEFINITION. The commands of the block, one constructor for each row of spec/opcode_table.json, and the types of
their operands.

A REQUEST ROW HAS NO OPERAND OF ITS OWN. A request reaches the controller only as the bytes of a frame (FRAME_RECEIVED)
and is taken from the receive queue (R203): its tag and its fields are the tag and the payload bytes of the frame at the
head of that queue, which State holds. The row's command is the taking of that frame, in one step with the owner's
work and the reply (R203, step 4). -/

namespace Sys2Proof

/-- The two shuttle tables (R43). -/
inductive Shuttle where
  | A | B
  deriving DecidableEq, Repr

/-- A bay number, 0–3 (R158). -/
abbrev Bay := Fin 4

/-- The four drive groups of the drive link (00_scope.md, "The cell as the controller sees it"), in its order. -/
inductive Group where
  /-- SPINDLE GANTRY -/
  | spindle
  /-- PICK GANTRY -/
  | pick
  /-- SHUTTLE DRIVE -/
  | shuttle
  /-- BAY DRIVE -/
  | bay
  deriving DecidableEq, Repr

/-- The spindle's classification of a completed pass (R102). -/
inductive LoadClass where
  | clean | shallow | hard
  deriving DecidableEq, Repr

/-- The two interlock lines (R190). -/
inductive Interlock where
  | estop | door
  deriving DecidableEq, Repr

/-- The two line-hold lines (R189). -/
inductive HoldLine where
  | upline | downline
  deriving DecidableEq, Repr

/-- The BAYS strap (R183). -/
inductive BayCount where
  | two | four
  deriving DecidableEq, Repr

/-- The direction straps of the line-hold lines (R183). -/
inductive LineDir where
  | input | output
  deriving DecidableEq, Repr

/-- The BAUD strap, in bit/s (R183). -/
inductive Baud where
  | b115200 | b230400 | b460800 | b921600
  deriving DecidableEq, Repr

/-- The strap record (R183). -/
structure Straps where
  bays : BayCount
  tray : Bool
  changer : Bool
  upline : LineDir
  downline : LineDir
  baud : Baud
  deriving DecidableEq, Repr

/-- Every pin the controller reads at the release of power-on reset: the straps (R183) and the levels of the
panel-present lines (R56), the magazine-present lines (R158), the interlock lines (R190) and the line-hold inputs
(R189). -/
structure Pins where
  straps : Straps
  panelA : Bool
  panelB : Bool
  magazines : Vector Bool 4
  estop : Bool
  door : Bool
  upline : Bool
  downline : Bool
  deriving DecidableEq, Repr

/-- The commands of the block: one constructor per row of spec/opcode_table.json, in the table's order. `req` is the
request number that a drive event carries (R1). -/
inductive Instr where
  /-- POWER_ON_RESET: the release of power-on reset, with the levels of all pins at that moment (R199). -/
  | powerOnReset (pins : Pins)
  /-- FRAME_RECEIVED: bytes arriving at the receiver with no gap of more than 20 ms before or between them (R202). -/
  | frameReceived (bytes : List Byte)
  /-- FRAME_GAP_TIMEOUT: more than 20 ms without a byte inside a frame (R202). -/
  | frameGapTimeout
  /-- SKIP_QUIET_GAP: more than 20 ms without a byte while SKIPPING (R202). -/
  | skipQuietGap
  /-- FRAME_SENT: the last byte of the frame being sent has left (R204). -/
  | frameSent
  /-- UNKNOWN_KIND: the frame taken has a kind outside the request table (R203). -/
  | unknownKind
  | getStatus
  | configure
  | setCellTag
  | setReports
  | ackFlags
  | loadRecipe
  | dropRecipe
  | getRecipe
  | getRecipeDirectory
  | setClaim
  | getClaims
  | announcePanel
  | withdrawPanel
  | getJob
  | getJobDirectory
  | releaseJob
  | setTool
  | rackBit
  | getTool
  | acceptMagazine
  | swapBay
  | getBay
  | emptyTray
  | pause
  | resume
  | park
  | wake
  | resetEnable
  | cellReset
  /-- CELL_RESET_TAKES_EFFECT: the reset behind an accepted CELL RESET whose reply has been sent in full (R199). -/
  | cellResetTakesEffect
  | panelPresent (sh : Shuttle)
  | panelRemoved (sh : Shuttle)
  /-- SHUTTLE_AREA_REQUEST: the shuttle's own event of R47. -/
  | shuttleAreaRequest (sh : Shuttle)
  | shuttleInPosition (sh : Shuttle) (req : ReqNo)
  | shuttleMoveOutComplete (sh : Shuttle) (req : ReqNo)
  | passCompletion (req : ReqNo) (load : LoadClass) (overrun : Bool)
  | cutWatchExpiry
  | interlockActivation (line : Interlock)
  | interlockClearing (line : Interlock)
  | lineHoldAssertion (line : HoldLine)
  | lineHoldDeassertion (line : HoldLine)
  /-- DRIVE_FAULT_EVENT: `req` is absent when the fault concerns no request (R1). -/
  | driveFaultEvent (group : Group) (req : Option ReqNo)
  /-- REFERENCING_COMPLETE: `occupied` is the reading of the slot sensor that the controller takes if this event ends
  homing with a placement awaited in a bay (R141, R167): the slots of that bay shown occupied. -/
  | referencingComplete (group : Group) (req : ReqNo) (occupied : List Nat)
  | parkComplete (group : Group) (req : ReqNo)
  | vacuumMade
  | vacuumLost
  | vacuumWatchExpiry
  | approachComplete (req : ReqNo)
  | transferComplete (req : ReqNo)
  | parkWaitComplete (req : ReqNo)
  | lowerComplete (req : ReqNo)
  | returnComplete (req : ReqNo)
  | placeWatchExpiry
  | slotSeated (bay : Bay) (slot : Nat)
  | trayEntry
  | magazinePresent (bay : Bay)
  | magazineRemoved (bay : Bay)
  | latchComplete (bay : Bay) (req : ReqNo)
  | changerComplete (req : ReqNo)
  | changerFault (req : ReqNo)
  | changerWatchExpiry
  deriving DecidableEq, Repr

end Sys2Proof
end

