-- ==== Sys2Proof/Config.lean ====
section
/-! DEFINITION. The capacities and periods the manual fixes, and the free values: what the manual leaves without a
value although the command completes. -/

namespace Sys2Proof.Config

/-- The tab pool that all recipes share (R2, R6). -/
def poolSize : Nat := 2048

/-- Recipe places, numbered from 1 (R2). -/
def recipePlaces : Nat := 32

/-- The most tabs one recipe may hold (R6). -/
def recipeTabLimit : Nat := 160

/-- The most jobs the Job List holds (R18). -/
def jobLimit : Nat := 8

/-- The most boards on the hold-pending list (R64). -/
def holdLimit : Nat := 2

/-- The most entries in the spare-bit rack (R116). -/
def rackLimit : Nat := 6

/-- The boards the reject tray holds (R145, R149). -/
def trayLimit : Nat := 40

/-- The longest run a board may need (R150, reason 4). -/
def runLimit : Nat := 8

/-- The fixed clearance above the tallest component, in h (R164). -/
def slotClearance : Nat := 100

/-- Frames the receive queue holds (R202). -/
def receiveLimit : Nat := 4

/-- Reports the transmit queue holds (R205). -/
def transmitLimit : Nat := 32

/-- The longest payload of a frame (R201, R202). -/
def payloadLimit : Nat := 2048

/-- The saturation value of the link-error count (R202) and of a bay's stray count (R158). -/
def countCap : Nat := 65535

/-- The saturation value of a changer operation's attempts (R116). -/
def attemptsCap : Nat := 255

/-- The vacuum watch, in ms (R127). -/
def vacuumWatchMs : Nat := 1500

/-- The place watch, in ms (R127). -/
def placeWatchMs : Nat := 2000

/-- The changer watch, in ms (R116). -/
def changerWatchMs : Nat := 20000

/-- The depth added for each counted pass on a tab, in h (R93). -/
def passStep : Nat := 10

/-- FREE VALUE (log entry 1). The product code GET JOB shows for a board of an ENDED or WITHDRAWN job whose recipe
place no longer holds such a board: R22 reads the code from the job's recipe, R10 lets that place be emptied once the
job is final, and no rule says what is then shown. The first argument is the state's count of free values already used,
the second the board's place in the reply. -/
opaque freeProductCode : Nat → Nat → Nat

end Sys2Proof.Config
end

