-- ==== Sys2Proof/Machine/State.lean ====
section
/-! DEFINITION. Everything the manual says the controller keeps, as plain data, in the owners' records of the block
table (00_scope.md), and the machine right after reset. Names are the manual's. -/

namespace Sys2Proof.Machine

/-! ## Values over the four drive groups -/

/-- One value for each drive group, in the order SPINDLE GANTRY, PICK GANTRY, SHUTTLE DRIVE, BAY DRIVE. -/
structure PerGroup (α : Type) where
  spindle : α
  pick : α
  shuttle : α
  bay : α
  deriving DecidableEq, Repr

/-- A set of drive groups (R182). -/
abbrev GroupSet := PerGroup Bool

/-! ## The Recipe Store (R2 to R6) -/

/-- The axis along which a pass traverses a tab (R4). -/
inductive Axis where
  | x | y
  deriving DecidableEq, Repr

/-- A tab entry of a recipe (R4), lengths in h. -/
structure TabEntry where
  tx : Nat
  ty : Nat
  w : Nat
  dir : Axis
  deriving DecidableEq, Repr

/-- A board entry of a recipe (R4); (`ox`, `oy`) is the board origin (bx, by). -/
structure BoardEntry where
  index : Nat
  product : Nat
  ox : Nat
  oy : Nat
  tabs : List TabEntry
  deriving DecidableEq, Repr

/-- A recipe record (R3). -/
structure Recipe where
  number : Nat
  pw : Nat
  ph : Nat
  t : Nat
  hc : Nat
  f : Nat
  o : Nat
  b : Nat
  zc : Nat
  passLimit : Nat
  boards : List BoardEntry
  deriving DecidableEq, Repr

/-- The Recipe Store (R2): the places that hold a recipe, in ascending recipe number, the free count of the tab pool and
the carried recipe number (0 for none). -/
structure Store where
  recipes : List Recipe
  free : Nat
  carried : Nat
  deriving DecidableEq, Repr

/-! ## The Job List (R18 to R26) -/

/-- R19, R20. -/
inductive JobState where
  | announced | seated | waitingArea | loading | cutting | ended | withdrawn
  deriving DecidableEq, Repr

/-- R19: the withdraw cause. -/
inductive WithdrawCause where
  | none | host | panelRemoved
  deriving DecidableEq, Repr

/-- R19: the shuttle preference, in the order of its codes (announce record). -/
inductive Preference where
  | either | a | b
  deriving DecidableEq, Repr

/-- R22: the fourteen board states, in the order of R22's table. -/
inductive BoardState where
  | waiting | cutting | holdPending | held | singled | placing
  | placed | rejected | unsevered | holdFailed | dropped | lost | left | abandoned
  deriving DecidableEq, Repr

/-- R25: the tab states. -/
inductive TabState where
  | pending | severed | failed | notCut
  deriving DecidableEq, Repr

/-- R25: a tab record. -/
structure TabRec where
  state : TabState
  used : Nat
  interrupted : Bool
  clamped : Bool
  hard : Bool
  deriving DecidableEq, Repr

/-- R22: a destination: none, a run of slots in one bay, or the reject tray. Also R127's placement awaited. -/
inductive Destination where
  | none
  | run (bay : Bay) (first : Nat) (count : Nat)
  | tray
  deriving DecidableEq, Repr

/-- R22: a board record. -/
structure BoardRec where
  index : Nat
  state : BoardState
  xout : Bool
  dest : Destination
  ranged : Bool
  damage : Bool
  tabs : List TabRec
  deriving DecidableEq, Repr

/-- R32: the end summary, its counts in R32's order. -/
structure Summary where
  placed : Nat
  rejected : Nat
  unsevered : Nat
  holdFailed : Nat
  dropped : Nat
  lost : Nat
  left : Nat
  abandoned : Nat
  severed : Nat
  failed : Nat
  notCut : Nat
  interrupted : Nat
  deriving DecidableEq, Repr

/-- R19: a job record. -/
structure Job where
  tag : Nat
  recipe : Nat
  repeatMark : Bool
  orientation : Nat
  pref : Preference
  xoutList : Option (List Nat)
  panelId : Option (List Byte)
  state : JobState
  cause : WithdrawCause
  bound : Option Shuttle
  boards : List BoardRec
  summary : Option Summary
  deriving DecidableEq, Repr

/-! ## The Shuttle Controller (R43) -/

/-- R43: the shuttle states. -/
inductive ShuttleState where
  | vacant | unbound | seated | waitingArea | movingIn | atCut | movingOut | atWindow
  deriving DecidableEq, Repr

/-- R43: a shuttle record, with the request of its move in flight (R1) and the level of its panel-present line (R44). -/
structure ShuttleRec where
  state : ShuttleState
  /-- The bound job's tag, 0 for none. -/
  bound : Nat
  moveOutPending : Bool
  interrupted : Bool
  moveReq : Option ReqNo
  panelLine : Bool
  deriving DecidableEq, Repr

/-- R43: both shuttle records, the arbiter record (holder and waiting set) and the seated order. -/
structure ShuttleCtl where
  a : ShuttleRec
  b : ShuttleRec
  holder : Option Shuttle
  waitA : Bool
  waitB : Bool
  seated : List Shuttle
  deriving DecidableEq, Repr

/-! ## The Cut Sequencer (R57, R70) -/

/-- R57: the sequencer states. -/
inductive SeqState where
  | idle | ready | pass | awaitHold | toolWait | finishing
  deriving DecidableEq, Repr

/-- R57: why a pass is fixed. -/
inductive FixReason where
  | resume | tool
  deriving DecidableEq, Repr

/-- R57: a fixed pass. -/
structure FixedPass where
  board : Nat
  ring : Nat
  reason : FixReason
  deriving DecidableEq, Repr

/-- R86: what a grant of the Tool Monitor carries: the segment k, the depth to issue, the clamped indication, L, f_eff, T,
W and D. -/
structure Grant where
  k : Nat
  depth : Nat
  clamped : Bool
  pathLen : Nat
  feed : Nat
  time : Nat
  watch : Nat
  debit : Nat
  deriving DecidableEq, Repr

/-- R70: the pass-in-flight record, with the pass request's number (R1). The cut watch runs, with period `grant.watch`,
exactly while this record exists (R74). -/
structure PassRec where
  job : Nat
  board : Nat
  ring : Nat
  held : Bool
  p : Nat
  grant : Grant
  req : ReqNo
  deriving DecidableEq, Repr

/-- R57: the sequencer record. -/
structure SeqRec where
  state : SeqState
  /-- The current job's tag, 0 for none. -/
  job : Nat
  board : Option Nat
  order : List Nat
  posX : Nat
  posY : Nat
  holdList : List Nat
  fixed : Option FixedPass
  pass : Option PassRec
  deriving DecidableEq, Repr

/-! ## The Tool Monitor (R82, R116) -/

/-- R82, R115: the bit states. -/
inductive BitState where
  | none | fitted | expired | changing
  deriving DecidableEq, Repr

/-- R83: a bit descriptor. -/
structure BitDesc where
  d : Nat
  u : Nat
  s : Nat
  nreq : Nat
  lb : Nat
  deriving DecidableEq, Repr

/-- R82: a segment's leave cause; `opened` is OPEN. -/
inductive LeaveCause where
  | opened | worn | hard | expired
  deriving DecidableEq, Repr

/-- R82: an entry of the segment table. -/
structure Segment where
  share : Nat
  used : Nat
  cause : LeaveCause
  deriving DecidableEq, Repr

/-- R116: the phases of the changer operation. -/
inductive ChangePhase where
  | waiting | moving | halted
  deriving DecidableEq, Repr

/-- R116: the changer operation, with its tool-change request's number (R1), held exactly in MOVING. The changer watch
runs exactly in MOVING. -/
structure ChangerOp where
  phase : ChangePhase
  entry : BitDesc
  attempts : Nat
  req : Option ReqNo
  deriving DecidableEq, Repr

/-- R82, R116: the fitted-bit record, the rack (head first) and the changer operation. -/
structure ToolRec where
  state : BitState
  desc : Option BitDesc
  n : Nat
  q : Nat
  segs : List Segment
  k : Nat
  charged : Nat
  hardCount : Nat
  rack : List BitDesc
  op : Option ChangerOp
  deriving DecidableEq, Repr

/-! ## The Pick Controller (R127) -/

/-- R127: the head states; `returning` is RETURN. -/
inductive HeadState where
  | idle | approach | holding | transfer | placing | returning
  deriving DecidableEq, Repr

/-- R127: the motion kinds. -/
inductive MotionKind where
  | approach | transfer | parkWait | lower | ret
  deriving DecidableEq, Repr

/-- R127: the head's motion. -/
inductive Motion where
  | none
  | inFlight (kind : MotionKind) (req : ReqNo)
  | held (kind : MotionKind)
  deriving DecidableEq, Repr

/-- A board named by its job tag and board index, as the hold queue names it (R127). -/
structure BoardRef where
  job : Nat
  board : Nat
  deriving DecidableEq, Repr

/-- R127: the pick record. `resetCarry` marks the board that R143 keeps under vacuum after CELL RESET until PICK GANTRY's
referencing completes. -/
structure PickRec where
  head : HeadState
  queue : List BoardRef
  served : Option BoardRef
  carried : Option BoardRef
  retry : Bool
  heldPass : Bool
  holdLost : Bool
  demand : Bool
  vacWatch : Bool
  awaited : Destination
  placeWatch : Bool
  motion : Motion
  resetCarry : Bool
  deriving DecidableEq, Repr

/-! ## The Claim Router (R145) -/

/-- R145: a claim entry. -/
structure ClaimEntry where
  enabled : Bool
  low : Nat
  high : Nat
  bay : Bay
  zone : Nat
  exactOnly : Bool
  deriving DecidableEq, Repr

/-- R145: the outcomes that hold a board. -/
inductive WaitOutcome where
  | unclaimed | zoneFull | trayFull
  deriving DecidableEq, Repr

/-- R145: the destination-wait record. -/
structure WaitRec where
  ref : BoardRef
  product : Nat
  outcome : WaitOutcome
  trayBound : Bool
  deriving DecidableEq, Repr

/-- R145: the routing record. -/
structure RouteRec where
  claims : Vector ClaimEntry 8
  wait : Option WaitRec
  trayCount : Nat
  trayPolicy : Bool
  trayInProgress : Bool
  deriving DecidableEq, Repr

/-! ## The Bay Controller (R158 to R163) -/

/-- R158: the bay states. -/
inductive BayState where
  | empty | present | online | draining | released
  deriving DecidableEq, Repr

/-- R158: the swap mark. -/
inductive SwapMark where
  | none | host | auto
  deriving DecidableEq, Repr

/-- R158: the latch motion, with its request's number while in flight (R1). -/
inductive Latch where
  | none
  | inFlight (req : ReqNo)
  | held
  | done
  deriving DecidableEq, Repr

/-- R162: a magazine record. -/
structure MagRec where
  tag : List Byte
  slots : Nat
  pitch : Nat
  zoneEnds : List Nat
  deriving DecidableEq, Repr

/-- R163: the slot states. -/
inductive SlotState where
  | free | reserved | occupied | blocked | preloaded
  deriving DecidableEq, Repr

/-- R163: the block causes. -/
inductive BlockCause where
  | place | reset | stray
  deriving DecidableEq, Repr

/-- R163: a run's fields, carried by its head. -/
structure RunHead where
  job : Nat
  board : Nat
  product : Nat
  ranged : Bool
  count : Nat
  cause : Option BlockCause
  deriving DecidableEq, Repr

/-- R163: a slot's reference to its run. A BLOCKED slot with no reference is blocked alone, with cause STRAY. -/
inductive SlotRef where
  | none
  | head (run : RunHead)
  | cont (headIndex : Nat)
  deriving DecidableEq, Repr

/-- R163: a slot record. -/
structure Slot where
  state : SlotState
  ref : SlotRef
  deriving DecidableEq, Repr

/-- R158: the run over which a board has been released. -/
structure Run where
  first : Nat
  count : Nat
  deriving DecidableEq, Repr

/-- R158: a bay record, with the level of the bay's magazine-present line (R160). -/
structure BayRec where
  state : BayState
  mag : Option MagRec
  slots : Option (List Slot)
  swap : SwapMark
  latch : Latch
  awaited : Option Run
  stray : Nat
  line : Bool
  deriving DecidableEq, Repr

/-- R158: the four bay records and the tray record. -/
structure BayCtl where
  bays : Vector BayRec 4
  trayAwaited : Bool
  deriving DecidableEq, Repr

/-! ## The Mode Controller (R182) -/

/-- R182: the cell modes. -/
inductive Mode where
  | homing | run | paused | stopped | parking | parked
  deriving DecidableEq, Repr

/-- R182: the pause causes, a set. -/
structure PauseCauses where
  host : Bool
  line : Bool
  deriving DecidableEq, Repr

/-- R182: the stop causes. -/
inductive StopCause where
  | estop | door | driveFault | cutWatch
  deriving DecidableEq, Repr

/-- R182: the set of stop causes. -/
structure StopCauses where
  estop : Bool
  door : Bool
  driveFault : Bool
  cutWatch : Bool
  deriving DecidableEq, Repr

/-- R182: the homing kinds. -/
inductive HomingKind where
  | full | inPlace
  deriving DecidableEq, Repr

/-- R184: the use of a line-hold line, in the order of its codes (CONFIGURE). -/
inductive LineUse where
  | unused | input | output
  deriving DecidableEq, Repr

/-- R184: the configured options, but for "tray takes unclaimed", which the Claim Router holds. -/
structure Options where
  enables : Vector Bool 4
  tray : Bool
  changer : Bool
  autoSwap : Bool
  upUse : LineUse
  downUse : LineUse
  deriving DecidableEq, Repr

/-- R182: the mode record, with the interlock lines' levels (R190), the line-hold lines' levels (R182) and the requests of
referencing, park motion and halt in flight on each group (R1, R191, R195, R192). -/
structure ModeRec where
  mode : Mode
  pause : PauseCauses
  stop : StopCauses
  faulted : GroupSet
  homing : HomingKind
  referenced : GroupSet
  parkDone : GroupSet
  straps : Straps
  options : Options
  locked : Bool
  tag : Option (List Byte)
  upLevel : Bool
  downLevel : Bool
  estopActive : Bool
  doorActive : Bool
  refReq : PerGroup (Option ReqNo)
  parkReq : PerGroup (Option ReqNo)
  haltReq : PerGroup (Option ReqNo)
  deriving DecidableEq, Repr

/-! ## The Link Controller (R202 to R208) -/

/-- R202: a complete, checked frame of the receive queue. -/
structure Frame where
  kind : Byte
  tag : Byte
  payload : List Byte
  deriving DecidableEq, Repr

/-- R202: the receiver. ASSEMBLING holds the bytes of the frame so far, the start byte left out. -/
inductive Receiver where
  | hunting
  | assembling (got : List Byte)
  | skipping
  deriving DecidableEq, Repr

/-- R205: the report classes, numbered 1 to 7 in this order. -/
inductive ReportClass where
  | cell | job | board | cut | bay | tool | flag
  deriving DecidableEq, Repr

/-- R205: the set of enabled report classes. -/
structure Mask where
  cell : Bool
  job : Bool
  board : Bool
  cut : Bool
  bay : Bool
  tool : Bool
  flag : Bool
  deriving DecidableEq, Repr

/-- R206: the sticky flags, numbered 1 to 12 in this order. -/
inductive Flag where
  | unclaimed | zoneFull | trayFull | holdFail | drop | placeLost
  | bayLost | toolExpired | changerFault | driveFault | cutWatch | linkError
  deriving DecidableEq, Repr

/-- R206: the flags that are set. -/
structure FlagSet where
  unclaimed : Bool
  zoneFull : Bool
  trayFull : Bool
  holdFail : Bool
  drop : Bool
  placeLost : Bool
  bayLost : Bool
  toolExpired : Bool
  changerFault : Bool
  driveFault : Bool
  cutWatch : Bool
  linkError : Bool
  deriving DecidableEq, Repr

/-! ### Reports (R40, R41, R113, R126, R176, R181, R200, R206) -/

/-- R200: the events of CELL STATE, the first that applies coming first. -/
inductive CellEvent where
  | powerOn | cellReset | mode | cause | interlockClear | lineOut | configure | tagSet
  deriving DecidableEq, Repr

/-- R40: the leave cause of JOB STATE. -/
inductive LeaveListCause where
  | none | evicted | released | withdrawnUnbound
  deriving DecidableEq, Repr

/-- R113: how a pass ended. -/
inductive PassEnding where
  | clean | shallow | hard | interrupted
  deriving DecidableEq, Repr

/-- R104, R113: the Cut Verifier's decision. -/
inductive Decision where
  | severed | anotherPass | failed | none
  deriving DecidableEq, Repr

/-- R126: the causes of TOOL STATE. -/
inductive ToolCause where
  | setTool | rack | configure | expiredWorn | expiredHard | expiredTwiceHard
  | changeStarted | halted | changeDone | fault | watch | reset
  deriving DecidableEq, Repr

/-- R181: the causes of BAY STATE. -/
inductive BayCause where
  | magazineIn | removed | accepted | swapAsked | drained | latchOpen | removedUnexpected | slotBlocked | reset
  deriving DecidableEq, Repr

/-- R200: the fields of CELL STATE. -/
structure CellReport where
  event : CellEvent
  mode : Mode
  pause : PauseCauses
  stop : StopCauses
  faulted : GroupSet
  homing : Option (HomingKind × GroupSet)
  estopActive : Bool
  doorActive : Bool
  upUse : LineUse
  upLevel : Bool
  downUse : LineUse
  downLevel : Bool
  locked : Bool
  tag : Option (List Byte)
  deriving DecidableEq, Repr

/-- R40: the fields of JOB STATE. -/
structure JobReport where
  tag : Nat
  panelId : Option (List Byte)
  state : JobState
  cause : WithdrawCause
  bound : Option Shuttle
  leave : LeaveListCause
  summary : Option Summary
  deriving DecidableEq, Repr

/-- R41: the fields of BOARD DONE. -/
structure BoardReport where
  job : Nat
  board : Nat
  product : Nat
  state : BoardState
  xout : Bool
  damage : Bool
  ranged : Bool
  dest : Destination
  severed : Nat
  failed : Nat
  notCut : Nat
  interrupted : Nat
  deriving DecidableEq, Repr

/-- R113: the fields of TAB DONE. -/
structure TabReport where
  job : Nat
  board : Nat
  ring : Nat
  held : Bool
  p : Nat
  k : Nat
  depth : Nat
  clamped : Bool
  ending : PassEnding
  overrun : Bool
  stopCause : Option StopCause
  decision : Decision
  tab : TabRec
  damage : Bool
  deriving DecidableEq, Repr

/-- R181: a zone's FREE slots and its longest free run. -/
structure ZoneSpace where
  free : Nat
  longest : Nat
  deriving DecidableEq, Repr

/-- R181: the fields of BAY STATE. -/
structure BayReport where
  bay : Bay
  cause : BayCause
  state : BayState
  swap : SwapMark
  tag : Option (List Byte)
  zones : List ZoneSpace
  deriving DecidableEq, Repr

/-- A run of a slot map with its head's slot and its state (R176, R180). -/
structure RunEntry where
  first : Nat
  state : SlotState
  run : RunHead
  deriving DecidableEq, Repr

/-- R176: the fields of MAGAZINE OUT. -/
structure MagazineOut where
  bay : Bay
  tag : List Byte
  slots : Nat
  swap : SwapMark
  unexpected : Bool
  preloaded : Nat
  blockedAlone : Nat
  runs : List RunEntry
  deriving DecidableEq, Repr

/-- R126: the fields of TOOL STATE. -/
structure ToolReport where
  cause : ToolCause
  state : BitState
  desc : Option BitDesc
  n : Nat
  k : Nat
  used : Nat
  forfeits : Nat
  remaining : Nat
  charged : Nat
  rackCount : Nat
  op : Option ChangerOp
  deriving DecidableEq, Repr

/-- The reports of the report table. -/
inductive Report where
  | cellState (r : CellReport)
  | jobState (r : JobReport)
  | boardDone (r : BoardReport)
  | tabDone (r : TabReport)
  | bayState (r : BayReport)
  | magazineOut (r : MagazineOut)
  | toolState (r : ToolReport)
  | flagRaised (flag : Flag) (flags : FlagSet)
  deriving DecidableEq, Repr

/-! ### Replies (R203) -/

/-- The result codes, in the order of their codes. -/
inductive Result where
  | ok | busy | unknownKind | badLength | badField | wrongState | locked | full | notFound | inUse
  | missingRecipe | sequence | parked
  deriving DecidableEq, Repr

/-- R12: an entry of the recipe directory. -/
structure RecipeLine where
  number : Nat
  boards : Nat
  tabs : Nat
  live : Nat
  deriving DecidableEq, Repr

/-- R39: an entry of the job directory. -/
structure JobLine where
  tag : Nat
  recipe : Nat
  state : JobState
  cause : WithdrawCause
  bound : Option Shuttle
  finalBoards : Nat
  deriving DecidableEq, Repr

/-- R162: what the reply to ACCEPT MAGAZINE carries of a zone. -/
structure ZoneLine where
  first : Nat
  last : Nat
  free : Nat
  deriving DecidableEq, Repr

/-- R180: what the reply to GET BAY carries of a zone. -/
structure ZoneDetail where
  first : Nat
  last : Nat
  free : Nat
  longest : Nat
  deriving DecidableEq, Repr

/-- R207: what the reply to GET STATUS carries: the records as they stood when the request was taken, and the board and tab
states that R81 and R144 show beside the sequencer's and the pick record. -/
structure StatusReply where
  mask : Mask
  flags : FlagSet
  linkErrors : Nat
  reportsLost : Bool
  reports : Nat
  frames : Nat
  mode : ModeRec
  trayPolicy : Bool
  shut : ShuttleCtl
  seq : SeqRec
  orderTabs : List TabState
  holdStates : List BoardState
  pick : PickRec
  queueStates : List BoardState
  carriedDest : Destination
  deriving DecidableEq, Repr

/-- R180: what the reply to GET BAY carries. -/
structure BayReply where
  state : BayState
  disabled : Bool
  swap : SwapMark
  latch : Latch
  stray : Nat
  mag : Option MagRec
  zones : List ZoneDetail
  awaited : Option Run
  runs : Option (List RunEntry)
  preloaded : List Nat
  blockedAlone : List Nat
  trayAwaited : Bool
  deriving DecidableEq, Repr

/-- What an OK reply carries, by the owner's rule. -/
inductive OkBody where
  | empty
  | status (r : StatusReply)
  | options (o : Options) (trayPolicy : Bool)
  | cellTag (tag : List Byte)
  | mask (m : Mask)
  | flags (f : FlagSet)
  | freeCount (n : Nat)
  | recipe (r : Recipe) (free carried live : Nat)
  | recipeDirectory (lines : List RecipeLine) (free carried : Nat)
  | claimSet (entry : ClaimEntry) (wait : Option WaitRec)
  | claims (table : Vector ClaimEntry 8) (wait : Option WaitRec) (count : Nat) (policy option inProgress : Bool)
  | announced (tag recipe position : Nat) (state : JobState) (bound : Option Shuttle) (listed : Nat)
  | withdrawn (state : JobState) (cause : WithdrawCause)
  | jobsListed (n : Nat)
  | job (position : Nat) (j : Job) (products : List Nat)
  | jobDirectory (lines : List JobLine)
  | toolSet (n : Nat) (shares : List Nat)
  | rackAdded (count : Nat) (state : BitState)
  | tool (t : ToolRec)
  | magazine (state : BayState) (zones : List ZoneLine)
  | swapped (state : BayState)
  | bay (r : BayReply)
  | trayEmptied (before : Nat) (wait : Option WaitRec)
  | causes (mode : Mode) (pause : PauseCauses) (stop : StopCauses)
  deriving DecidableEq, Repr

/-- A reply's payload: the result, and what the result carries (R203). -/
inductive ReplyBody where
  /-- A refusal that carries nothing. -/
  | refused (r : Result)
  /-- A refusal to LOAD RECIPE, DROP RECIPE or GET RECIPE, which carries the free count (R6). -/
  | refusedFree (r : Result) (free : Nat)
  /-- BAD FIELD with the field number and, where the field lies in an entry, the board and tab position. -/
  | badField (field : Nat) (board : Option Nat) (tab : Option Nat)
  /-- BAD FIELD to one of the three recipe requests, which carries the free count too (R6). -/
  | badFieldFree (field : Nat) (board : Option Nat) (tab : Option Nat) (free : Nat)
  /-- The FULL reply to LOAD RECIPE: the tab total asked for and the room available (R7), and the free count (R6). -/
  | fullRoom (asked room free : Nat)
  | ok (body : OkBody)
  deriving DecidableEq, Repr

/-- A reply: kind and tag as R201 sets them. -/
structure Reply where
  kind : Byte
  tag : Byte
  body : ReplyBody
  deriving DecidableEq, Repr

/-- A frame the transmitter sends (R204). -/
inductive TxFrame where
  | reply (r : Reply)
  | report (r : Report)
  deriving DecidableEq, Repr

/-- How far an accepted CELL RESET has come (R198): none, its reply waiting or being sent, or its reply sent in full and the
reset about to take effect. -/
inductive ResetPhase where
  | none | replying | due
  deriving DecidableEq, Repr

/-- The Link Controller's state (R202 to R208). The frame being answered is in `slot` or, as a reply, in `sending`. -/
structure Link where
  rx : Receiver
  rxQueue : List Frame
  slot : Option Reply
  sending : Option TxFrame
  txQueue : List Report
  mask : Mask
  flags : FlagSet
  linkErrors : Nat
  reportsLost : Bool
  resetEnable : Bool
  reset : ResetPhase
  baud : Baud
  deriving DecidableEq, Repr

/-! ## The drive link (R1) -/

/-- What a request to a drive group asks (R70, R128, R127, R50, R51, R191, R195, R178, R121). -/
inductive DriveReq where
  | pass (x y : Nat) (dir : Axis) (pathLen depth feed : Nat)
  | approach (ref : BoardRef) (x y : Nat)
  | transfer (dest : Destination)
  | parkWait
  | lower
  | ret
  | moveIn (sh : Shuttle)
  | moveOut (sh : Shuttle)
  | reference (kind : HomingKind)
  | park
  | latchOpen (bay : Bay)
  | toolChange (entry : BitDesc)
  /-- The halt of R192, a request too (00_scope.md, "Functional block diagram"). -/
  | halt
  deriving DecidableEq, Repr

/-- A message the controller puts on the drive link: a request with its number (R1), or the abandon of R123, which carries none
(DESIGN CHOICE, log entry 3). -/
inductive DriveMsg where
  | request (group : Group) (number : ReqNo) (what : DriveReq)
  | abandonToolChange
  deriving DecidableEq, Repr

/-- THE MODEL's own record of one step's output. `sent`: what the last command put on the drive link, oldest first (log
entry 4). The other three are used inside a step only and are empty between steps: the reports the step has queued, the
first of R200's events that it has met, and whether its CELL STATE already stands in `fresh`. -/
structure Output where
  sent : List DriveMsg
  fresh : List Report
  cellEvent : Option CellEvent
  cellPlaced : Bool
  deriving DecidableEq, Repr

/-- The state of the whole controller. -/
structure State where
  link : Link
  mode : ModeRec
  store : Store
  jobs : List Job
  shut : ShuttleCtl
  seq : SeqRec
  tool : ToolRec
  pick : PickRec
  route : RouteRec
  bay : BayCtl
  /-- The number of the next request to each drive group (R1). -/
  drive : PerGroup ReqNo
  out : Output
  /-- THE MODEL's own count of free values used (log entry 1). -/
  freeUsed : Nat
  /-- The commands that are waiting, first in, first out. -/
  pending : List Instr
  deriving DecidableEq, Repr

/-- Why the machine could stop with a fault. The manual gives every command an effect or says that it is not applied, so no
meaning raises a fault and there is no constructor. -/
inductive Fault where
  deriving DecidableEq, Repr

/-- Why a command could be refused. -/
inductive Refusal where
  /-- Raised by exec's arm of a command that has no meaning yet (safe: nothing is claimed of it). No arm raises it now. -/
  | notModelled (mnemonic : String)
  deriving DecidableEq, Repr

/-! ## The machine right after reset -/

namespace State

/-- A claim entry after the release of power-on reset (R145). -/
def resetClaim : ClaimEntry :=
  { enabled := false, low := 1, high := 1, bay := 0, zone := 0, exactOnly := false }

/-- A bay record after the release of power-on reset, for the level of its magazine-present line (R158). -/
def resetBay (line : Bool) : BayRec :=
  { state := if line then .present else .empty, mag := none, slots := none, swap := .none, latch := .none,
    awaited := none, stray := 0, line := line }

/-- A shuttle record after a reset, for the level of its panel-present line (R56). -/
def resetShuttle (line : Bool) : ShuttleRec :=
  { state := if line then .unbound else .vacant, bound := 0, moveOutPending := false, interrupted := false,
    moveReq := none, panelLine := line }

/-- The Shuttle Controller after a reset (R56). -/
def resetShuttles (a b : Bool) : ShuttleCtl :=
  { a := resetShuttle a, b := resetShuttle b, holder := none, waitA := false, waitB := false,
    seated := (if a then [.A] else []) ++ (if b then [.B] else []) }

/-- The sequencer record after a reset (R57). -/
def resetSeq : SeqRec :=
  { state := .idle, job := 0, board := none, order := [], posX := 0, posY := 0, holdList := [], fixed := none,
    pass := none }

/-- The fitted-bit record emptied for the bit state NONE (R82), with no rack and no operation. -/
def resetTool : ToolRec :=
  { state := .none, desc := none, n := 0, q := 0, segs := [], k := 0, charged := 0, hardCount := 0, rack := [],
    op := none }

/-- The pick record after the release of power-on reset (R127). -/
def resetPick : PickRec :=
  { head := .idle, queue := [], served := none, carried := none, retry := false, heldPass := false, holdLost := false,
    demand := false, vacWatch := false, awaited := .none, placeWatch := false, motion := .none, resetCarry := false }

/-- The routing record after the release of power-on reset (R145). -/
def resetRoute : RouteRec :=
  { claims := Vector.replicate 8 resetClaim, wait := none, trayCount := 0, trayPolicy := false, trayInProgress := false }

/-- The report-class mask after a reset: every class except CUT (R205). -/
def resetMask : Mask :=
  { cell := true, job := true, board := true, cut := false, bay := true, tool := true, flag := true }

/-- Every flag clear (R206). -/
def noFlags : FlagSet :=
  { unclaimed := false, zoneFull := false, trayFull := false, holdFail := false, drop := false, placeLost := false,
    bayLost := false, toolExpired := false, changerFault := false, driveFault := false, cutWatch := false,
    linkError := false }

/-- A set of no groups. -/
def noGroups : GroupSet := { spindle := false, pick := false, shuttle := false, bay := false }

/-- The use a direction strap gives by default (R184). -/
def strapUse : LineDir → LineUse
  | .input => .input
  | .output => .output

/-- The strap defaults of the configured options (R184). -/
def strapOptions (s : Straps) : Options :=
  { enables := match s.bays with
      | .two => #v[true, true, false, false]
      | .four => #v[true, true, true, true]
    tray := s.tray, changer := s.changer, autoSwap := false, upUse := strapUse s.upline,
    downUse := strapUse s.downline }

/-- The straps of `State.reset` (log entry 2, DESIGN CHOICE): the manual leaves the straps to the carrier. -/
def resetStraps : Straps :=
  { bays := .four, tray := true, changer := true, upline := .input, downline := .output, baud := .b115200 }

/-- The mode record after the release of power-on reset with `resetStraps` and every input line inactive (R182): HOMING,
with the first referencing request of each group, number 0, in flight (R191, R1). -/
def resetMode : ModeRec :=
  { mode := .homing, pause := { host := false, line := false },
    stop := { estop := false, door := false, driveFault := false, cutWatch := false }, faulted := noGroups,
    homing := .full, referenced := noGroups, parkDone := noGroups, straps := resetStraps,
    options := strapOptions resetStraps, locked := false, tag := none, upLevel := false, downLevel := false,
    estopActive := false, doorActive := false,
    refReq := { spindle := some 0, pick := some 0, shuttle := some 0, bay := some 0 },
    parkReq := { spindle := none, pick := none, shuttle := none, bay := none },
    haltReq := { spindle := none, pick := none, shuttle := none, bay := none } }

/-- The CELL STATE report with the event POWER ON that is being sent in `State.reset` (R199, R204). -/
def resetReport : CellReport :=
  { event := .powerOn, mode := .homing, pause := resetMode.pause, stop := resetMode.stop, faulted := noGroups,
    homing := some (.full, noGroups), estopActive := false, doorActive := false, upUse := .input, upLevel := false,
    downUse := .output, downLevel := false, locked := false, tag := none }

/-- The machine right after the release of power-on reset, with the pins of log entry 2: every record as R2, R18, R56, R57,
R82, R116, R127, R145, R158, R182 and R208 give it, FULL homing requested of the four groups (R191), the CELL STATE
report with the event POWER ON queued (R199) and, the transmitter being idle, begun (R204). -/
def reset : State :=
  { link :=
      { rx := .hunting, rxQueue := [], slot := none, sending := some (.report (.cellState resetReport)), txQueue := [],
        mask := resetMask, flags := noFlags, linkErrors := 0, reportsLost := false, resetEnable := false, reset := .none,
        baud := resetStraps.baud }
    mode := resetMode
    store := { recipes := [], free := Config.poolSize, carried := 0 }
    jobs := []
    shut := resetShuttles false false
    seq := resetSeq
    tool := resetTool
    pick := resetPick
    route := resetRoute
    bay := { bays := Vector.replicate 4 (resetBay false), trayAwaited := false }
    drive := { spindle := 1, pick := 1, shuttle := 1, bay := 1 }
    out :=
      { sent :=
          [ .request .spindle 0 (.reference .full), .request .pick 0 (.reference .full),
            .request .shuttle 0 (.reference .full), .request .bay 0 (.reference .full) ]
        fresh := [], cellEvent := none, cellPlaced := false }
    freeUsed := 0
    pending := [] }

end State

end Sys2Proof.Machine
end

