-- ==== Sys2Proof/Machine/Ops.lean ====
section
/-! DEFINITION. The plainest named operations: access to the per-group values, the shuttles, the bays and the listed jobs;
requests on the drive link (R1); the arithmetic of 00_scope.md. -/

namespace Sys2Proof.Machine

/-! ## Arithmetic -/

/-- ceil(a / b) for b above 0 (00_scope.md, Arithmetic). -/
def ceilDiv (a b : Nat) : Nat := (a + (b - 1)) / b

/-- The distance between two lengths. -/
def absDiff (a b : Nat) : Nat := (a - b) + (b - a)

/-- The squared Euclidean distance in h² (00_scope.md, Arithmetic; R60). -/
def sqDist (x y sx sy : Nat) : Nat := absDiff x sx * absDiff x sx + absDiff y sy * absDiff y sy

/-- The total of a list of counts. -/
def total (l : List Nat) : Nat := l.foldr (· + ·) 0

/-! ## Per-group values -/

namespace PerGroup

/-- The same value for every group. -/
def const {α : Type} (v : α) : PerGroup α := { spindle := v, pick := v, shuttle := v, bay := v }

/-- The value of one group. -/
def get {α : Type} (p : PerGroup α) : Group → α
  | .spindle => p.spindle
  | .pick => p.pick
  | .shuttle => p.shuttle
  | .bay => p.bay

/-- The values with one group's replaced. -/
def set {α : Type} (p : PerGroup α) (g : Group) (v : α) : PerGroup α :=
  match g with
  | .spindle => { p with spindle := v }
  | .pick => { p with pick := v }
  | .shuttle => { p with shuttle := v }
  | .bay => { p with bay := v }

end PerGroup

/-- Every group is in the set (R191, R195). -/
def allGroups (s : GroupSet) : Bool := s.spindle && s.pick && s.shuttle && s.bay

/-- The four groups, in the order of 00_scope.md. -/
def groups : List Group := [.spindle, .pick, .shuttle, .bay]

/-! ## Updates of the owners' records -/

namespace State

def updLink (f : Link → Link) (s : State) : State := { s with link := f s.link }
def updMode (f : ModeRec → ModeRec) (s : State) : State := { s with mode := f s.mode }
def updStore (f : Store → Store) (s : State) : State := { s with store := f s.store }
def updJobs (f : List Job → List Job) (s : State) : State := { s with jobs := f s.jobs }
def updShut (f : ShuttleCtl → ShuttleCtl) (s : State) : State := { s with shut := f s.shut }
def updSeq (f : SeqRec → SeqRec) (s : State) : State := { s with seq := f s.seq }
def updTool (f : ToolRec → ToolRec) (s : State) : State := { s with tool := f s.tool }
def updPick (f : PickRec → PickRec) (s : State) : State := { s with pick := f s.pick }
def updRoute (f : RouteRec → RouteRec) (s : State) : State := { s with route := f s.route }
def updBay (f : BayCtl → BayCtl) (s : State) : State := { s with bay := f s.bay }
def updDrive (f : PerGroup ReqNo → PerGroup ReqNo) (s : State) : State := { s with drive := f s.drive }
def updOut (f : Output → Output) (s : State) : State := { s with out := f s.out }
def updFreeUsed (f : Nat → Nat) (s : State) : State := { s with freeUsed := f s.freeUsed }

end State

/-! ## Shuttles -/

namespace ShuttleCtl

/-- One shuttle's record (R43). -/
def get (c : ShuttleCtl) : Shuttle → ShuttleRec
  | .A => c.a
  | .B => c.b

/-- The controller's records with one shuttle's replaced. -/
def set (c : ShuttleCtl) (sh : Shuttle) (r : ShuttleRec) : ShuttleCtl :=
  match sh with
  | .A => { c with a := r }
  | .B => { c with b := r }

/-- The shuttle is in the arbiter's waiting set (R43). -/
def waits (c : ShuttleCtl) : Shuttle → Bool
  | .A => c.waitA
  | .B => c.waitB

/-- The shuttle joins or leaves the waiting set. -/
def setWait (c : ShuttleCtl) (sh : Shuttle) (v : Bool) : ShuttleCtl :=
  match sh with
  | .A => { c with waitA := v }
  | .B => { c with waitB := v }

end ShuttleCtl

/-- One shuttle's record. -/
def State.shuttle (s : State) (sh : Shuttle) : ShuttleRec := s.shut.get sh

/-- Replace one shuttle's record by a function of it. -/
def State.updShuttle (sh : Shuttle) (f : ShuttleRec → ShuttleRec) (s : State) : State :=
  s.updShut fun c => c.set sh (f (c.get sh))

/-! ## Bays -/

/-- One bay's record. -/
def State.bayRec (s : State) (b : Bay) : BayRec := s.bay.bays[b]

/-- Replace one bay's record by a function of it. -/
def State.updBayRec (b : Bay) (f : BayRec → BayRec) (s : State) : State :=
  s.updBay fun c => { c with bays := c.bays.set b.val (f c.bays[b]) b.isLt }

/-- The bays, in ascending order. -/
def allBays : List Bay := [0, 1, 2, 3]

/-- A bay within the strapped count (R159). -/
def State.bayFitted (s : State) (b : Bay) : Bool :=
  match s.mode.straps.bays with
  | .four => true
  | .two => b.val < 2

/-- A bay enabled in the cell's configuration (R150, reason 1). -/
def State.bayEnabled (s : State) (b : Bay) : Bool := s.bayFitted b && s.mode.options.enables[b]

/-! ## Recipes and jobs -/

/-- The recipe stored under a number (R2). -/
def Store.find (st : Store) (n : Nat) : Option Recipe := st.recipes.find? (fun r => r.number == n)

/-- The listed job with a tag (R18: at most one). -/
def State.job? (s : State) (tag : Nat) : Option Job := s.jobs.find? (fun j => j.tag == tag)

/-- A job is live until it becomes ENDED or WITHDRAWN (R21). -/
def Job.live (j : Job) : Bool := j.state != .ended && j.state != .withdrawn

/-- The final board states (R22). -/
def BoardState.final : BoardState → Bool
  | .waiting | .cutting | .holdPending | .held | .singled | .placing => false
  | .placed | .rejected | .unsevered | .holdFailed | .dropped | .lost | .left | .abandoned => true

/-- Every board of the job is final. -/
def Job.allFinal (j : Job) : Bool := j.boards.all (fun b => b.state.final)

/-- The board record of a job by board index. -/
def Job.board? (j : Job) (i : Nat) : Option BoardRec := j.boards.find? (fun b => b.index == i)

/-- A board record, by job tag and board index. -/
def State.board? (s : State) (tag i : Nat) : Option BoardRec := (s.job? tag).bind (·.board? i)

/-- The state of a board; `none` when it is not listed. -/
def State.boardState (s : State) (tag i : Nat) : Option BoardState := (s.board? tag i).map (·.state)

/-- Replace the job of a tag by a function of it. -/
def State.updJob (tag : Nat) (f : Job → Job) (s : State) : State :=
  s.updJobs fun js => js.map fun j => if j.tag == tag then f j else j

/-- Replace a board record by a function of it. -/
def State.updBoard (tag i : Nat) (f : BoardRec → BoardRec) (s : State) : State :=
  s.updJob tag fun j => { j with boards := j.boards.map fun b => if b.index == i then f b else b }

/-- Replace a tab record by a function of it. -/
def State.updTab (tag i ring : Nat) (f : TabRec → TabRec) (s : State) : State :=
  s.updBoard tag i fun b => { b with tabs := b.tabs.modify ring f }

/-- The recipe a job refers to, as the store now holds it (R16, R22). -/
def State.jobRecipe? (s : State) (tag : Nat) : Option Recipe := (s.job? tag).bind fun j => s.store.find j.recipe

/-- A board's entry in its job's recipe. -/
def State.boardEntry? (s : State) (tag i : Nat) : Option BoardEntry := (s.jobRecipe? tag).bind fun r => r.boards[i]?

/-- A board's product code, read from its job's recipe (R22). A live job's recipe is stored (R9), so the 0 of a missing entry
is met by no live job. (DEDUCED, log entry 36.) -/
def State.product (s : State) (tag i : Nat) : Nat := ((s.boardEntry? tag i).map (·.product)).getD 0

/-- A withdrawal of the job is pending (R33). -/
def State.withdrawing (s : State) (tag : Nat) : Bool :=
  match s.job? tag with
  | some j => j.cause != .none
  | none => false

/-- The number of live jobs referring to a recipe number (R9). -/
def State.liveJobs (s : State) (n : Nat) : Nat := (s.jobs.filter fun j => j.live && j.recipe == n).length

/-! ## The drive link -/

/-- Send a request to a group: it carries the group's next number, and the number moves on, 65535 being followed by 0
(R1). -/
def sendRequest (g : Group) (what : DriveReq) (s : State) : State :=
  { s with
    drive := s.drive.set g (s.drive.get g + 1)
    out := { s.out with sent := s.out.sent ++ [.request g (s.drive.get g) what] } }

/-- The number the next request to a group will carry (R1). -/
def nextReq (g : Group) (s : State) : ReqNo := s.drive.get g

/-- Send a message without a request number. (DESIGN CHOICE, log entry 3.) -/
def sendPlain (m : DriveMsg) (s : State) : State := s.updOut fun o => { o with sent := o.sent ++ [m] }

/-! ## A step -/

/-- No report queued and no CELL STATE event met yet in this step. -/
def emptyOutput : Output := { sent := [], fresh := [], cellEvent := none, cellPlaced := false }

/-- The state as a command finds it: the record of the previous step's output is cleared. (DESIGN CHOICE, log entry 4.) -/
def beginStep (s : State) : State := { s with out := emptyOutput }

/-- A command that is not applied: no state of the controller changes and no flag is raised (R1, R20, R23, R44). (DEDUCED,
log entry 7.) -/
def notApplied (s : State) : Host.Outcome State Fault Refusal := .next (beginStep s)

end Sys2Proof.Machine
end

