-- ==== Sys2Proof/Machine/Flags.lean ====
section
/-! DEFINITION. The Link Controller's outgoing side: the report-class mask and the transmit queue (R205), the sticky flags
(R206), the CELL STATE report (R200) and the transmitter (R204). -/

namespace Sys2Proof.Machine

/-! ## The mask (R205) -/

namespace Mask

/-- The class is enabled. -/
def get (m : Mask) : ReportClass → Bool
  | .cell => m.cell
  | .job => m.job
  | .board => m.board
  | .cut => m.cut
  | .bay => m.bay
  | .tool => m.tool
  | .flag => m.flag

/-- The mask that holds exactly the classes of a test. -/
def ofTest (p : ReportClass → Bool) : Mask :=
  { cell := p .cell, job := p .job, board := p .board, cut := p .cut, bay := p .bay, tool := p .tool, flag := p .flag }

end Mask

/-- A class's number, 1 to 7 (R205). -/
def ReportClass.number : ReportClass → Nat
  | .cell => 1
  | .job => 2
  | .board => 3
  | .cut => 4
  | .bay => 5
  | .tool => 6
  | .flag => 7

/-- The class of a report's kind (report table). -/
def Report.cls : Report → ReportClass
  | .cellState _ => .cell
  | .jobState _ => .job
  | .boardDone _ => .board
  | .tabDone _ => .cut
  | .bayState _ => .bay
  | .magazineOut _ => .bay
  | .toolState _ => .tool
  | .flagRaised _ _ => .flag

/-- The report is a TAB DONE, which a full queue gives up first (R205). -/
def Report.isTabDone : Report → Bool
  | .tabDone _ => true
  | _ => false

/-- Remove the oldest TAB DONE of a list, the reports behind it closing up. -/
def dropTabDone : List Report → List Report
  | [] => []
  | r :: rest => if r.isTabDone then rest else r :: dropTabDone rest

/-- A block queues a report (R205). The reports of earlier steps (`txQueue`) stand before those of this step (`fresh`). -/
def queueReport (r : Report) (s : State) : State :=
  if !s.link.mask.get r.cls then s
  else if s.link.txQueue.length + s.out.fresh.length < Config.transmitLimit then
    s.updOut fun o => { o with fresh := o.fresh ++ [r] }
  else if s.link.txQueue.any Report.isTabDone then
    { s with
      link := { s.link with txQueue := dropTabDone s.link.txQueue, reportsLost := true }
      out := { s.out with fresh := s.out.fresh ++ [r] } }
  else if s.out.fresh.any Report.isTabDone then
    { s with
      link := { s.link with reportsLost := true }
      out := { s.out with fresh := dropTabDone s.out.fresh ++ [r] } }
  else s.updLink fun l => { l with reportsLost := true }

/-! ## The sticky flags (R206) -/

/-- A flag's number, 1 to 12 (R206). -/
def Flag.number : Flag → Nat
  | .unclaimed => 1
  | .zoneFull => 2
  | .trayFull => 3
  | .holdFail => 4
  | .drop => 5
  | .placeLost => 6
  | .bayLost => 7
  | .toolExpired => 8
  | .changerFault => 9
  | .driveFault => 10
  | .cutWatch => 11
  | .linkError => 12

/-- The flags in the order of their numbers. -/
def allFlags : List Flag :=
  [ .unclaimed, .zoneFull, .trayFull, .holdFail, .drop, .placeLost, .bayLost, .toolExpired, .changerFault, .driveFault,
    .cutWatch, .linkError ]

namespace FlagSet

/-- The flag is set. -/
def get (f : FlagSet) : Flag → Bool
  | .unclaimed => f.unclaimed
  | .zoneFull => f.zoneFull
  | .trayFull => f.trayFull
  | .holdFail => f.holdFail
  | .drop => f.drop
  | .placeLost => f.placeLost
  | .bayLost => f.bayLost
  | .toolExpired => f.toolExpired
  | .changerFault => f.changerFault
  | .driveFault => f.driveFault
  | .cutWatch => f.cutWatch
  | .linkError => f.linkError

/-- The set of the flags that pass a test. -/
def ofTest (p : Flag → Bool) : FlagSet :=
  { unclaimed := p .unclaimed, zoneFull := p .zoneFull, trayFull := p .trayFull, holdFail := p .holdFail,
    drop := p .drop, placeLost := p .placeLost, bayLost := p .bayLost, toolExpired := p .toolExpired,
    changerFault := p .changerFault, driveFault := p .driveFault, cutWatch := p .cutWatch, linkError := p .linkError }

/-- The set with one flag set. -/
def raise (f : FlagSet) (x : Flag) : FlagSet := ofTest fun y => f.get y || y == x

end FlagSet

/-- A block raises a flag (R206): a clear flag is set and FLAG RAISED queued; a set flag changes nothing. The flag set the
report carries is the one after the step, which `settleReport` writes at the step's end. -/
def raiseFlag (x : Flag) (s : State) : State :=
  if s.link.flags.get x then s
  else
    let s := s.updLink fun l => { l with flags := l.flags.raise x }
    queueReport (.flagRaised x s.link.flags) s

/-! ## CELL STATE (R200) -/

/-- R200: the place of an event in the list of events, the first that applies being reported. -/
def CellEvent.rank : CellEvent → Nat
  | .powerOn => 0
  | .cellReset => 1
  | .mode => 2
  | .cause => 3
  | .interlockClear => 4
  | .lineOut => 5
  | .configure => 6
  | .tagSet => 7

/-- The step has met an event of R200: it will queue one CELL STATE, named after the first event of R200's list. -/
def markCell (e : CellEvent) (s : State) : State :=
  s.updOut fun o =>
    { o with cellEvent := match o.cellEvent with
        | none => some e
        | some e' => some (if e.rank < e'.rank then e else e') }

/-- The fields of CELL STATE as the state now stands (R200). -/
def cellReport (e : CellEvent) (s : State) : CellReport :=
  { event := e, mode := s.mode.mode, pause := s.mode.pause, stop := s.mode.stop, faulted := s.mode.faulted,
    homing := if s.mode.mode = .homing then some (s.mode.homing, s.mode.referenced) else none,
    estopActive := s.mode.estopActive, doorActive := s.mode.doorActive, upUse := s.mode.options.upUse,
    upLevel := s.mode.upLevel, downUse := s.mode.options.downUse, downLevel := s.mode.downLevel,
    locked := s.mode.locked, tag := s.mode.tag }

/-- Queue the step's CELL STATE here, if the step has met an event of R200 and has not queued it yet: one step queues at
most one. -/
def placeCellState (s : State) : State :=
  match s.out.cellEvent with
  | none => s
  | some e =>
    if s.out.cellPlaced then s
    else (queueReport (.cellState (cellReport e s)) s).updOut fun o => { o with cellPlaced := true }

/-- What a report queued in this step shows of the end of the step: CELL STATE the state after the whole step with the first
event that applies (R200), FLAG RAISED the whole flag set after the step (R206). The others stay as queued, TAB DONE among
them (DESIGN CHOICE, log entry 44). -/
def settleReport (s : State) : Report → Report
  | .cellState r => .cellState (cellReport (s.out.cellEvent.getD r.event) s)
  | .flagRaised x _ => .flagRaised x s.link.flags
  | r => r

/-! ## The transmitter (R204) -/

/-- The choice at a frame boundary: an idle transmitter sends the waiting reply, else the report at the head of the queue. It
sends nothing between the end of an accepted CELL RESET's reply and the reset (R198, R208). -/
def pump (s : State) : State :=
  match s.link.sending, s.link.reset with
  | some _, _ => s
  | none, .due => s
  | none, _ =>
    match s.link.slot with
    | some r => s.updLink fun l => { l with sending := some (.reply r), slot := none }
    | none =>
      match s.link.txQueue with
      | r :: rest => s.updLink fun l => { l with sending := some (.report r), txQueue := rest }
      | [] => s

/-- The end of a step: CELL STATE is queued if it is due, the step's reports join the transmit queue, and an idle transmitter
makes its choice. (DEDUCED, log entry 14.) -/
def finishStep (s : State) : State :=
  let s := placeCellState s
  pump { s with
    link := { s.link with txQueue := s.link.txQueue ++ s.out.fresh.map (settleReport s) }
    out := { s.out with fresh := [], cellEvent := none, cellPlaced := false } }

/-- A command that is applied: its work, whole, between the beginning and the end of a step. -/
def applied (f : State → State) (s : State) : Host.Outcome State Fault Refusal :=
  .next (finishStep (f (beginStep s)))

end Sys2Proof.Machine
end

