-- ==== Sys2Proof/Machine/BayOps.lean ====
section
/-! DEFINITION. The Bay Controller's shared operations: zones and free runs (R162, R164, R165), the life of a run (R166, R168,
R170, R171, R179), swaps (R174, R175), the latch (R178) and the BAY STATE and MAGAZINE OUT reports (R176, R181). -/

namespace Sys2Proof.Machine

/-! ## Zones and the slot map -/

/-- A zone's slots: its first slot and its end (R162). -/
structure Zone where
  first : Nat
  last : Nat
  deriving DecidableEq, Repr

/-- The zones a zone-end list gives, from a first slot on (R162). -/
def zonesFrom (first : Nat) : List Nat → List Zone
  | [] => []
  | e :: rest => { first := first, last := e } :: zonesFrom (e + 1) rest

/-- The zones of a magazine (R162). -/
def MagRec.zones (m : MagRec) : List Zone := zonesFrom 0 m.zoneEnds

/-- A slot of the map is FREE. -/
def slotFree (slots : List Slot) (i : Nat) : Bool :=
  match slots[i]? with
  | some x => x.state == .free
  | none => false

/-- The slot indices of a zone, ascending. -/
def Zone.indices (z : Zone) : List Nat := (List.range (z.last + 1)).drop z.first

/-- A zone's FREE slots (R162, R181). -/
def freeIn (slots : List Slot) (z : Zone) : Nat := (z.indices.filter (slotFree slots)).length

/-- The longest stretch of `true` in a list, `cur` being the stretch that ends just before it. -/
def longestStretch (cur best : Nat) : List Bool → Nat
  | [] => max cur best
  | true :: rest => longestStretch (cur + 1) best rest
  | false :: rest => longestStretch 0 (max cur best) rest

/-- The length of a zone's longest run of consecutive FREE slots (R180, R181). -/
def longestIn (slots : List Slot) (z : Zone) : Nat := longestStretch 0 0 (z.indices.map (slotFree slots))

/-- The run size n = ceil((hc + 100) / p) (R164). -/
def runSize (hc pitch : Nat) : Nat := ceilDiv (hc + Config.slotClearance) pitch

/-- Slots first to first + n − 1 are all FREE. -/
def runFree (slots : List Slot) (first n : Nat) : Bool := (List.range n).all fun i => slotFree slots (first + i)

/-- R165: the lowest slot s of the zone such that slots s to s + n − 1 all lie in the zone and are all FREE. -/
def findRun (slots : List Slot) (z : Zone) (n : Nat) : Option Nat :=
  z.indices.find? fun s => s + n ≤ z.last + 1 && runFree slots s n

/-- The slot map with the slots of a run set: the head with the run's fields, the rest naming the head (R163). -/
def setRun (state : SlotState) (first : Nat) (run : RunHead) (slots : List Slot) : List Slot :=
  slots.mapIdx fun i x =>
    if i = first then { state := state, ref := .head run }
    else if first < i ∧ i < first + run.count then { state := state, ref := .cont first }
    else x

/-- The slot map with the slots of a run FREE, without run fields (R171). -/
def clearRun (first count : Nat) (slots : List Slot) : List Slot :=
  slots.mapIdx fun i x => if first ≤ i ∧ i < first + count then { state := .free, ref := .none } else x

/-- The fields of the run whose head is a slot. -/
def runHead? (slots : List Slot) (first : Nat) : Option RunHead :=
  match slots[first]? with
  | some { ref := .head r, .. } => some r
  | _ => none

/-- A run changes state, keeping its fields (R168, R170). -/
def restateRun (state : SlotState) (first : Nat) (cause : Option BlockCause) (slots : List Slot) : List Slot :=
  match runHead? slots first with
  | some r => setRun state first { r with cause := cause } slots
  | none => slots

/-- The map holds a RESERVED slot (R175). -/
def anyReserved (slots : List Slot) : Bool := slots.any fun x => x.state == .reserved

/-- The map holds a FREE slot (R174). -/
def anyFree (slots : List Slot) : Bool := slots.any fun x => x.state == .free

/-- The runs of a map in ascending order of run head (R176, R180). -/
def runsFrom (i : Nat) : List Slot → List RunEntry
  | [] => []
  | x :: rest =>
    match x.ref with
    | .head r => { first := i, state := x.state, run := r } :: runsFrom (i + 1) rest
    | _ => runsFrom (i + 1) rest

/-- The indices of the slots that pass a test, ascending. -/
def indicesOf (p : Slot → Bool) (slots : List Slot) : List Nat :=
  (List.range slots.length).filter fun i => match slots[i]? with
    | some x => p x
    | none => false

/-- A PRELOADED slot. -/
def Slot.isPreloaded (x : Slot) : Bool := x.state == .preloaded

/-- A slot blocked alone (R163). -/
def Slot.isAlone (x : Slot) : Bool := x.state == .blocked && x.ref == .none

/-- The slot map of a bay record, empty when absent. -/
def BayRec.map (b : BayRec) : List Slot := b.slots.getD []

/-- The zones of a bay's magazine, none when the record is absent. -/
def BayRec.zones (b : BayRec) : List Zone := match b.mag with
  | some m => m.zones
  | none => []

/-! ## Reports -/

/-- BAY STATE of a bay record (R181). -/
def bayReportOf (b : Bay) (c : BayCause) (r : BayRec) : BayReport :=
  { bay := b, cause := c, state := r.state, swap := r.swap, tag := r.mag.map (·.tag),
    zones := r.zones.map fun z => { free := freeIn r.map z, longest := longestIn r.map z } }

/-- Queue a BAY STATE report of the bay as it stands (R181). -/
def bayReport (b : Bay) (c : BayCause) (s : State) : State := queueReport (.bayState (bayReportOf b c (s.bayRec b))) s

/-- MAGAZINE OUT of a bay record with its magazine record (R176, step 1). -/
def magazineOutOf (b : Bay) (unexpected : Bool) (r : BayRec) (m : MagRec) : MagazineOut :=
  { bay := b, tag := m.tag, slots := m.slots, swap := r.swap, unexpected := unexpected,
    preloaded := (r.map.filter Slot.isPreloaded).length, blockedAlone := (r.map.filter Slot.isAlone).length,
    runs := runsFrom 0 r.map }

/-- Queue the MAGAZINE OUT report of a bay's magazine (R176, step 1). -/
def magazineReport (b : Bay) (unexpected : Bool) (s : State) : State :=
  match (s.bayRec b).mag with
  | none => s
  | some m => queueReport (.magazineOut (magazineOutOf b unexpected (s.bayRec b) m)) s

/-! ## The latch (R178) -/

/-- The modes in which latch motions, and all pick motions but APPROACH, may start (R129, R178, R194). -/
def Mode.carries : Mode → Bool
  | .run | .paused => true
  | _ => false

/-- R178: the latch-open motion is called for: requested of BAY DRIVE in RUN or PAUSED, and recorded as held otherwise. -/
def openLatch (b : Bay) (s : State) : State :=
  if s.mode.mode.carries then
    let req := nextReq .bay s
    sendRequest .bay (.latchOpen b) (s.updBayRec b fun r => { r with latch := .inFlight req })
  else s.updBayRec b fun r => { r with latch := .held }

/-- R178: a held latch motion is requested at the entry into RUN or PAUSED. -/
def openHeldLatch (b : Bay) (s : State) : State :=
  match (s.bayRec b).latch with
  | .held => openLatch b s
  | _ => s

/-- R178: a stop makes a latch motion in flight held. -/
def holdLatch (r : BayRec) : BayRec :=
  match r.latch with
  | .inFlight _ => { r with latch := .held }
  | _ => r

/-! ## Swaps (R174, R175) -/

/-- The bay becomes RELEASED and the latch-open motion is requested (R175). -/
def releaseBay (b : Bay) (s : State) : State :=
  openLatch b (s.updBayRec b fun r => { r with state := .released })

/-- R175: a swap asked of an ONLINE bay is granted, or deferred while it holds a RESERVED run. -/
def askSwap (b : Bay) (mark : SwapMark) (s : State) : State :=
  let s := s.updBayRec b fun r => { r with swap := mark }
  let s := if anyReserved (s.bayRec b).map then s.updBayRec b fun r => { r with state := .draining } else releaseBay b s
  bayReport b .swapAsked s

/-- R174: the auto-swap test. -/
def autoSwapTest (b : Bay) (s : State) : State :=
  if s.mode.options.autoSwap = true ∧ (s.bayRec b).state = .online ∧ anyFree (s.bayRec b).map = false then
    askSwap b .auto s
  else s

/-- R175: the drain test. -/
def drainTest (b : Bay) (s : State) : State :=
  if (s.bayRec b).state = .draining ∧ anyReserved (s.bayRec b).map = false then
    bayReport b .drained (releaseBay b s)
  else s

/-! ## The life of a run -/

/-- Replace a bay's slot map by a function of it. -/
def mapSlots (b : Bay) (f : List Slot → List Slot) (s : State) : State :=
  s.updBayRec b fun r => { r with slots := r.slots.map f }

/-- R166: the run becomes RESERVED for its board; the auto-swap test follows. -/
def reserveRun (b : Bay) (first : Nat) (run : RunHead) (s : State) : State :=
  autoSwapTest b (mapSlots b (setRun .reserved first run) s)

/-- R168, steps 1 and 2: the run becomes OCCUPIED and is no longer awaited. -/
def occupyRun (b : Bay) (first : Nat) (s : State) : State :=
  (mapSlots b (restateRun .occupied first none) s).updBayRec b fun r => { r with awaited := none }

/-- R170: the awaited run becomes BLOCKED with cause PLACE and is no longer awaited. -/
def blockRun (b : Bay) (first : Nat) (s : State) : State :=
  (mapSlots b (restateRun .blocked first (some .place)) s).updBayRec b fun r => { r with awaited := none }

/-- R171: the run kept for a dropped board becomes FREE; the drain test follows. -/
def freeRun (b : Bay) (first count : Nat) (s : State) : State := drainTest b (mapSlots b (clearRun first count) s)

/-- R179: a RESERVED slot becomes BLOCKED with cause RESET, its run keeping its fields. -/
def resetSlot (x : Slot) : Slot :=
  if x.state = .reserved then
    { state := .blocked, ref := match x.ref with
        | .head r => .head { r with cause := some .reset }
        | r => r }
  else x

/-- R176, steps 2 and 3 but for the report: the magazine has left. -/
def emptyBay (r : BayRec) : BayRec :=
  { r with state := .empty, mag := none, slots := none, swap := .none, latch := .none, stray := 0 }

end Sys2Proof.Machine
end

