-- ==== Sys2Proof/Machine/Geometry.lean ====
section
/-! DEFINITION. A job's cut geometry (R16): transformed positions (R14), the ring direction (R15), the pick point (R128), the
start tab (R60) and the cut order (R61). -/

namespace Sys2Proof.Machine

/-- R14: bit 0 of the orientation code mirrors in X. -/
def mirrorsX (orientation : Nat) : Bool := orientation % 2 == 1

/-- R14: bit 1 of the orientation code mirrors in Y. -/
def mirrorsY (orientation : Nat) : Bool := orientation / 2 % 2 == 1

/-- R15: the ring direction is ascending for codes 0 and 3. -/
def ringAscending (orientation : Nat) : Bool := mirrorsX orientation == mirrorsY orientation

/-- R5, R14: a tab's transformed position. -/
def tabPosition (r : Recipe) (orientation : Nat) (b : BoardEntry) (t : TabEntry) : Nat × Nat :=
  let x := b.ox + t.tx
  let y := b.oy + t.ty
  (if mirrorsX orientation then r.pw - x else x, if mirrorsY orientation then r.ph - y else y)

/-- The transformed positions of a board's tabs in ring order (R16). -/
def tabPositions (r : Recipe) (orientation : Nat) (b : BoardEntry) : List (Nat × Nat) :=
  b.tabs.map (tabPosition r orientation b)

/-- R60: the place of the tab with the least squared distance from the spindle, the lowest ring index among equals; `best` is
the place and distance found so far. -/
def nearestFrom (sx sy i : Nat) (best : Nat × Nat) : List (Nat × Nat) → Nat
  | [] => best.1
  | p :: rest =>
    let d := sqDist p.1 p.2 sx sy
    nearestFrom sx sy (i + 1) (if d < best.2 then (i, d) else best) rest

/-- R60: the start tab of a board. -/
def startTab (sx sy : Nat) : List (Nat × Nat) → Nat
  | [] => 0
  | p :: rest => nearestFrom sx sy 1 (0, sqDist p.1 p.2 sx sy) rest

/-- R61: the cut order of a board of m tabs from its start tab. -/
def cutOrder (m start : Nat) (ascending : Bool) : List Nat :=
  (List.range m).map fun i => if ascending then (start + i) % m else (start + (m - i)) % m

/-- R128: the pick point, the average of the transformed positions, each coordinate rounded down. -/
def pickPoint (ps : List (Nat × Nat)) : Nat × Nat :=
  (total (ps.map (·.1)) / ps.length, total (ps.map (·.2)) / ps.length)

/-- The transformed positions of a board's tabs, by job tag and board index; none when it is not listed. -/
def State.positions (s : State) (tag i : Nat) : List (Nat × Nat) :=
  match s.job? tag, s.jobRecipe? tag, s.boardEntry? tag i with
  | some j, some r, some b => tabPositions r j.orientation b
  | _, _, _ => []

end Sys2Proof.Machine
end

