-- ==== Sys2Proof/Machine/JobOps.lean ====
section
/-! DEFINITION. The Job List's shared operations: the state tables of jobs and boards (R20, R23), the end summary (R32), and
the JOB STATE and BOARD DONE reports (R40, R41). -/

namespace Sys2Proof.Machine

/-! ## Job states (R20) -/

/-- The events of R20's table, in its order. -/
inductive JobEvent where
  | bound | asks | granted | inPosition | inPositionWithdrawn | moveOutStarted | withdrawalDone | withdrawAccepted
  | panelRemoved
  deriving DecidableEq, Repr

/-- R20's table: the new state, or `none` where the table does not list the event. -/
def jobNext : JobState → JobEvent → Option JobState
  | .announced, .bound => some .seated
  | .seated, .asks => some .waitingArea
  | .waitingArea, .granted => some .loading
  | .loading, .inPosition => some .cutting
  | .loading, .inPositionWithdrawn => some .withdrawn
  | .cutting, .moveOutStarted => some .ended
  | .cutting, .withdrawalDone => some .withdrawn
  | .seated, .withdrawAccepted => some .withdrawn
  | .waitingArea, .withdrawAccepted => some .withdrawn
  | .seated, .panelRemoved => some .withdrawn
  | .waitingArea, .panelRemoved => some .withdrawn
  | _, _ => none

/-- The boards of a job in one state. -/
def countBoards (j : Job) (st : BoardState) : Nat := (j.boards.filter fun b => b.state == st).length

/-- The tabs of a board in one state. -/
def countTabs (b : BoardRec) (st : TabState) : Nat := (b.tabs.filter fun t => t.state == st).length

/-- The tabs of a board marked interrupted. -/
def countInterrupted (b : BoardRec) : Nat := (b.tabs.filter fun t => t.interrupted).length

/-- The tabs of a job in one state. -/
def countJobTabs (j : Job) (st : TabState) : Nat := total (j.boards.map fun b => countTabs b st)

/-- The end summary of the records as they stand (R32). -/
def summaryOf (j : Job) : Summary :=
  { placed := countBoards j .placed, rejected := countBoards j .rejected, unsevered := countBoards j .unsevered,
    holdFailed := countBoards j .holdFailed, dropped := countBoards j .dropped, lost := countBoards j .lost,
    left := countBoards j .left, abandoned := countBoards j .abandoned, severed := countJobTabs j .severed,
    failed := countJobTabs j .failed, notCut := countJobTabs j .notCut,
    interrupted := total (j.boards.map countInterrupted) }

/-- JOB STATE of a job, with the leave cause (R40). -/
def jobReportOf (j : Job) (leave : LeaveListCause) : JobReport :=
  { tag := j.tag, panelId := j.panelId, state := j.state, cause := j.cause, bound := j.bound, leave := leave,
    summary := j.summary }

/-- Queue the JOB STATE report of a listed job (R40). -/
def reportJob (tag : Nat) (s : State) : State :=
  match s.job? tag with
  | some j => queueReport (.jobState (jobReportOf j .none)) s
  | none => s

/-- A job in its new state: the end summary is written when that state is ENDED or WITHDRAWN (R32). -/
def enterJobState (st : JobState) (j : Job) : Job :=
  let j := { j with state := st }
  if j.live then j else { j with summary := some (summaryOf j) }

/-- An event reaches a job (R20): if the table lists it for the job's state, the job takes the new state and the event's
other fields (`f`), and JOB STATE is queued (R40); otherwise nothing changes. -/
def jobEvent (tag : Nat) (e : JobEvent) (f : Job → Job) (s : State) : State :=
  match s.job? tag with
  | none => s
  | some j =>
    match jobNext j.state e with
    | none => s
    | some st => reportJob tag (s.updJob tag fun j => enterJobState st (f j))

/-- A job leaves the list, the jobs behind it closing up, and its JOB STATE report is queued with the leave cause (R18,
R40). -/
def removeJob (tag : Nat) (leave : LeaveListCause) (s : State) : State :=
  match s.job? tag with
  | none => s
  | some j =>
    queueReport (.jobState (jobReportOf j leave)) (s.updJobs fun js => js.filter fun j => j.tag != tag)

/-! ## Board states (R23, R24) -/

/-- The events of R23's table, in its order. -/
inductive BoardEvent where
  | takenUp | passedOver | downToHeld | tabFailed | vacuumMade | holdGivenUp | holdSoughtAgain | severedHeld
  | severedUnheld | vacuumLost | released | slotConfirmed | trayConfirmed | placementLost | abandoned
  deriving DecidableEq, Repr

/-- R23's table: the new state, or `none` where the table gives the state no transition. -/
def boardNext : BoardState → BoardEvent → Option BoardState
  | .waiting, .takenUp => some .cutting
  | .waiting, .passedOver => some .left
  | .cutting, .downToHeld => some .holdPending
  | .cutting, .tabFailed => some .unsevered
  | .holdPending, .vacuumMade => some .held
  | .holdPending, .holdGivenUp => some .holdFailed
  | .held, .holdSoughtAgain => some .holdPending
  | .held, .tabFailed => some .unsevered
  | .held, .severedHeld => some .singled
  | .held, .severedUnheld => some .dropped
  | .singled, .vacuumLost => some .dropped
  | .singled, .released => some .placing
  | .placing, .slotConfirmed => some .placed
  | .placing, .trayConfirmed => some .rejected
  | .placing, .placementLost => some .lost
  | .waiting, .abandoned => some .abandoned
  | .cutting, .abandoned => some .abandoned
  | .holdPending, .abandoned => some .abandoned
  | .held, .abandoned => some .abandoned
  | _, _ => none

/-- R24, step 1: a tab still PENDING becomes NOT CUT. -/
def closeTab (t : TabRec) : TabRec := if t.state = .pending then { t with state := .notCut } else t

/-- R24, steps 1 and 2, of a board in its new state. -/
def enterBoardState (st : BoardState) (b : BoardRec) : BoardRec :=
  if st.final then
    { b with state := st, tabs := b.tabs.map closeTab, dest := if st = .dropped then .none else b.dest }
  else { b with state := st }

/-- BOARD DONE of a board record (R41). -/
def boardReportOf (tag product : Nat) (b : BoardRec) : BoardReport :=
  { job := tag, board := b.index, product := product, state := b.state, xout := b.xout, damage := b.damage,
    ranged := b.ranged, dest := b.dest, severed := countTabs b .severed, failed := countTabs b .failed,
    notCut := countTabs b .notCut, interrupted := countInterrupted b }

/-- Queue the BOARD DONE of a board (R24, step 3). -/
def reportBoard (tag i : Nat) (s : State) : State :=
  match s.board? tag i with
  | some b => queueReport (.boardDone (boardReportOf tag (s.product tag i) b)) s
  | none => s

/-- An event reaches a board (R23), with R24's steps 1 to 3 where the new state is final. With the new state; `none` when R23
gives the board's state no transition on the event, which is then not applied. -/
def moveBoard (tag i : Nat) (e : BoardEvent) (s : State) : State × Option BoardState :=
  match (s.boardState tag i).bind (boardNext · e) with
  | none => (s, none)
  | some st =>
    let s := s.updBoard tag i (enterBoardState st)
    (if st.final then reportBoard tag i s else s, some st)

end Sys2Proof.Machine
end

