-- ==== Sys2Proof/Machine/ShuttleOps.lean ====
section
/-! DEFINITION. The Shuttle Controller's shared operations: binding (R45, R46), the request for the cut area (R47), the
arbiter (R48, R49), the moves (R50, R51) and their repetition after a stop (R55). -/

namespace Sys2Proof.Machine

/-- The shuttles, A before B. -/
def shuttles : List Shuttle := [.A, .B]

/-- The preference allows the shuttle (03_shuttles_and_the_cut_area.md, Binding panels to jobs). -/
def Preference.allows : Preference → Shuttle → Bool
  | .either, _ => true
  | .a, .A => true
  | .b, .B => true
  | _, _ => false

/-- A job and a shuttle are bound: both become SEATED (R45, R46, R20). -/
def bindJob (sh : Shuttle) (tag : Nat) (s : State) : State :=
  let s := s.updShuttle sh fun r => { r with state := .seated, bound := tag }
  jobEvent tag .bound (fun j => { j with bound := some sh }) s

/-- R50: the grant. The shuttle leaves the waiting set, becomes the holder and MOVING IN, its job becomes LOADING, and the move
in is requested. -/
def grantArea (sh : Shuttle) (s : State) : State :=
  let req := nextReq .shuttle s
  let s := s.updShut fun c =>
    let c := { c.setWait sh false with holder := some sh }
    c.set sh { c.get sh with state := .movingIn, moveReq := some req }
  let s := jobEvent (s.shuttle sh).bound .granted id s
  sendRequest .shuttle (.moveIn sh) s

/-- The list position of a job, the list's length when it is not listed (R18). -/
def State.position (s : State) (tag : Nat) : Nat := s.jobs.findIdx fun j => j.tag == tag

/-- R48: the waiting shuttle that a grant goes to: the one whose bound job stands earlier in the Job List. -/
def nextWaiting (s : State) : Option Shuttle :=
  match s.shut.waitA, s.shut.waitB with
  | false, false => none
  | true, false => some .A
  | false, true => some .B
  | true, true => if s.position s.shut.b.bound < s.position s.shut.a.bound then some .B else some .A

/-- R48: the arbiter's test. -/
def arbiterTest (s : State) : State :=
  if s.shut.holder = none ∧ s.mode.mode = .run then
    match nextWaiting s with
    | some sh => grantArea sh s
    | none => s
  else s

/-- R47: a SEATED shuttle asks for the cut area: it and its job become WAITING AREA. -/
def askArea (sh : Shuttle) (s : State) : State :=
  if (s.shuttle sh).state = .seated then
    let s := s.updShut fun c =>
      let c := c.setWait sh true
      c.set sh { c.get sh with state := .waitingArea }
    jobEvent (s.shuttle sh).bound .asks id s
  else s

/-- R51: the start of the move out, when the mode is RUN and the mark set: the shuttle becomes MOVING OUT, a CUTTING job ENDED,
and the cut area is released. -/
def startMoveOut (sh : Shuttle) (s : State) : State :=
  if (s.shuttle sh).state = .atCut ∧ (s.shuttle sh).moveOutPending = true ∧ s.mode.mode = .run then
    let req := nextReq .shuttle s
    let tag := (s.shuttle sh).bound
    let s := s.updShuttle sh fun r => { r with moveOutPending := false, state := .movingOut, moveReq := some req }
    let s := sendRequest .shuttle (.moveOut sh) s
    let s := jobEvent tag .moveOutStarted id s
    arbiterTest (s.updShut fun c => { c with holder := none })
  else s

/-- R51: the Job List tells that the shuttle's job has finished at the cut area. -/
def askMoveOut (sh : Shuttle) (s : State) : State :=
  startMoveOut sh (s.updShuttle sh fun r => { r with moveOutPending := true })

/-- R55: at the entry into RUN an interrupted move is requested again to the same destination. -/
def repeatMove (sh : Shuttle) (s : State) : State :=
  let r := s.shuttle sh
  if r.interrupted then
    let req := nextReq .shuttle s
    let s := s.updShuttle sh fun r => { r with interrupted := false, moveReq := some req }
    sendRequest .shuttle (if r.state = .movingIn then .moveIn sh else .moveOut sh) s
  else s

/-- R55: a stop interrupts a move. -/
def interruptMove (r : ShuttleRec) : ShuttleRec :=
  if r.state = .movingIn ∨ r.state = .movingOut then { r with interrupted := true, moveReq := none } else r

/-- R54: the entry into RUN, for the Shuttle Controller: interrupted moves are repeated (R55), SEATED shuttles ask (R47), the
arbiter grants (R48), and pending moves out start (R51). -/
def shuttlesEnterRun (s : State) : State :=
  let s := repeatMove .B (repeatMove .A s)
  let s := askArea .B (askArea .A s)
  let s := arbiterTest s
  startMoveOut .B (startMoveOut .A s)

/-- R52: a job that leaves the list is no longer bound to a shuttle at the cut area, moving out or at the window. -/
def unbindJob (tag : Nat) (s : State) : State :=
  let f := fun (r : ShuttleRec) =>
    if r.bound = tag ∧ (r.state = .atCut ∨ r.state = .movingOut ∨ r.state = .atWindow) then { r with bound := 0 } else r
  (s.updShuttle .A f).updShuttle .B f

end Sys2Proof.Machine
end

