-- ==== Sys2Proof/Machine/BoardOps.lean ====
section
/-! DEFINITION. The completion of a job (R31, R36), the board events that can bring it about (R23, R24), and the removal of a
board from the hold-pending list and the hold queue (R64, R128). -/

namespace Sys2Proof.Machine

/-- R79: the Cut Sequencer gives up its current job; the spindle position is kept. -/
def giveUpJob (tag : Nat) (s : State) : State :=
  if s.seq.job = tag then
    s.updSeq fun q => { q with state := .idle, job := 0, board := none, order := [], holdList := [], fixed := none }
  else s

/-- The Shuttle Controller is told that the job bound to a shuttle has finished at the cut area (R51). -/
def finishAtArea (bound : Option Shuttle) (s : State) : State :=
  match bound with
  | some sh => askMoveOut sh s
  | none => s

/-- R24, step 4: if the job is CUTTING and every board is final, its completion follows: R31, or with a withdrawal pending
R36. -/
def completeJob (tag : Nat) (s : State) : State :=
  match s.job? tag with
  | none => s
  | some j =>
    if j.state = .cutting ∧ j.allFinal = true then
      if j.cause = .none then finishAtArea j.bound (giveUpJob tag s)
      else finishAtArea j.bound (giveUpJob tag (jobEvent tag .withdrawalDone id s))
    else s

/-- An event reaches a board (R23, R24). -/
def boardEvent (tag i : Nat) (e : BoardEvent) (s : State) : State :=
  match moveBoard tag i e s with
  | (s, some st) => if st.final then completeJob tag s else s
  | (s, none) => s

/-- R64, R128: a board leaves the hold-pending list and its request leaves the hold queue. -/
def leaveHoldList (tag i : Nat) (s : State) : State :=
  let s := s.updSeq fun q => if q.job = tag then { q with holdList := q.holdList.filter (· != i) } else q
  s.updPick fun p => { p with queue := p.queue.filter (· != { job := tag, board := i }) }

/-- R62: the board is no longer current, and the cut order is emptied. -/
def leaveCurrent (tag i : Nat) (s : State) : State :=
  s.updSeq fun q => if q.job = tag ∧ q.board = some i then { q with board := none, order := [] } else q

end Sys2Proof.Machine
end

