-- ==== Sys2Proof/Machine/PickOps.lean ====
section
/-! DEFINITION. The Pick Controller's shared operations: motions (R129), serving the hold queue (R128), the return of the head
(R131, R134, R137) and the settling of a placement (R137, R168, R169, R170). -/

namespace Sys2Proof.Machine

/-! ## Motions (R129) -/

/-- R129: the modes in which a motion kind may start. -/
def MotionKind.startsIn : MotionKind → Mode → Bool
  | .approach, m => m == .run
  | _, m => m.carries

/-- The destination recorded for the carried board (R135, R144). -/
def carriedDest (s : State) : Destination :=
  match s.pick.carried with
  | some r => ((s.board? r.job r.board).map (·.dest)).getD .none
  | none => .none

/-- What the request of a motion kind carries (R128, R135, R136). -/
def motionRequest (kind : MotionKind) (s : State) : DriveReq :=
  match kind with
  | .approach =>
    match s.pick.served with
    | some r => let p := pickPoint (s.positions r.job r.board); .approach r p.1 p.2
    | none => .ret
  | .transfer => .transfer (carriedDest s)
  | .parkWait => .parkWait
  | .lower => .lower
  | .ret => .ret

/-- R129: a motion is called for: it is requested of PICK GANTRY where the mode allows, and recorded as held otherwise. A
motion it replaces is abandoned. -/
def startMotion (kind : MotionKind) (s : State) : State :=
  if kind.startsIn s.mode.mode then
    let req := nextReq .pick s
    sendRequest .pick (motionRequest kind s) (s.updPick fun p => { p with motion := .inFlight kind req })
  else s.updPick fun p => { p with motion := .held kind }

/-- R129: a held motion is requested at the entry into a mode that allows it. -/
def startHeldMotion (s : State) : State :=
  match s.pick.motion with
  | .held kind => if kind.startsIn s.mode.mode then startMotion kind s else s
  | _ => s

/-- R141: a stop makes the motion in flight held with its kind. -/
def holdMotion : Motion → Motion
  | .inFlight kind _ => .held kind
  | m => m

/-- The completion event of a motion kind is about the motion in flight (R129, R1). -/
def State.motionIs (s : State) (kind : MotionKind) (req : ReqNo) : Bool :=
  match s.pick.motion with
  | .inFlight k r => k == kind && r == req
  | _ => false

/-! ## The hold queue (R128) -/

/-- R128: the head starts to serve the first entry of the queue when it is IDLE and the mode is RUN. -/
def serveTest (s : State) : State :=
  match s.pick.queue with
  | [] => s
  | r :: _ =>
    if s.pick.head = .idle ∧ s.mode.mode = .run then
      startMotion .approach (s.updPick fun p => { p with served := some r, retry := false, head := .approach })
    else s

/-- R128: a hold request appends its board to the queue; the serving test follows. -/
def requestHold (tag i : Nat) (s : State) : State :=
  serveTest (s.updPick fun p => { p with queue := p.queue ++ [{ job := tag, board := i }] })

/-! ## The head lets go (R131, R134, R137, R142) -/

/-- The vacuum demand becomes off, no board is served, and the head becomes RETURN with a RETURN motion called for (R131, R134,
R142). -/
def returnEmpty (s : State) : State :=
  startMotion .ret (s.updPick fun p =>
    { p with demand := false, vacWatch := false, holdLost := false, served := none, head := .returning })

/-- R137: a placement is settled: no placement is awaited, no board carried, and the head becomes RETURN. -/
def settleHead (s : State) : State :=
  startMotion .ret (s.updPick fun p =>
    { p with placeWatch := false, awaited := .none, carried := none, head := .returning })

/-! ## Placements (R168, R169, R170) -/

/-- R168: the placement over a bay's awaited run is confirmed. -/
def confirmRun (b : Bay) (run : Run) (s : State) : State :=
  let ref := s.pick.carried
  let s := occupyRun b run.first s
  let s := match ref with
    | some r => boardEvent r.job r.board .slotConfirmed s
    | none => s
  drainTest b (settleHead s)

/-- R169: the tray placement is confirmed. -/
def confirmTray (s : State) : State :=
  let ref := s.pick.carried
  let s := s.updBay fun c => { c with trayAwaited := false }
  let s := match ref with
    | some r => boardEvent r.job r.board .trayConfirmed s
    | none => s
  let s := s.updRoute fun r => { r with trayCount := r.trayCount + 1, trayInProgress := false }
  settleHead s

/-- The board on or under the head becomes LOST (R170, R177). -/
def loseBoard (s : State) : State :=
  match s.pick.carried with
  | some r => boardEvent r.job r.board .placementLost s
  | none => s

/-- R137, R170: the placement awaited is not confirmed: PLACE LOST is raised, a run BLOCKED or the tray given up, and the board
LOST. -/
def losePlacement (s : State) : State :=
  let awaited := s.pick.awaited
  let s := raiseFlag .placeLost s
  match awaited with
  | .run b first _ =>
    let s := loseBoard (blockRun b first s)
    let s := drainTest b (bayReport b .slotBlocked s)
    settleHead s
  | .tray =>
    let s := loseBoard (s.updBay fun c => { c with trayAwaited := false })
    settleHead (s.updRoute fun r => { r with trayInProgress := false })
  | .none => s

end Sys2Proof.Machine
end

