-- ==== Sys2Proof/Machine/RouteOps.lean ====
section
/-! DEFINITION. The Claim Router's resolution of a destination (R148 to R154) and what the Pick Controller does with its answer
(R135, R139). -/

namespace Sys2Proof.Machine

/-- R150: the reasons for which an entry tried is passed over, in the order in which they are looked at. -/
inductive PassOver where
  | hiddenBay | bayNotOnline | noSuchZone | runTooLong | noFreeRun
  deriving DecidableEq, Repr

/-- A place an entry offers: the bay, the run's first slot and its slot count. -/
structure Offer where
  bay : Bay
  first : Nat
  count : Nat
  deriving DecidableEq, Repr

/-- R150: an entry is tried for a board of component height `hc`. -/
def tryEntry (hc : Nat) (s : State) (e : ClaimEntry) : Except PassOver Offer :=
  let r := s.bayRec e.bay
  if !s.bayEnabled e.bay then .error .hiddenBay
  else if r.state ≠ .online then .error .bayNotOnline
  else
    match r.mag, r.zones[e.zone]? with
    | some m, some z =>
      let n := runSize hc m.pitch
      if Config.runLimit < n then .error .runTooLong
      else
        match findRun r.map z n with
        | some first => .ok { bay := e.bay, first := first, count := n }
        | none => .error .noFreeRun
    | _, _ => .error .noSuchZone

/-- R150: the entry is tried in the direct pass. -/
def ClaimEntry.direct (code : Nat) (e : ClaimEntry) : Bool := e.enabled && e.low == code

/-- R150: the entry is tried in the ranged pass. -/
def ClaimEntry.ranged (code : Nat) (e : ClaimEntry) : Bool :=
  e.enabled && !e.exactOnly && e.low ≤ code && code ≤ e.high

/-- The first entry tried that is not passed over wins (R150). -/
def firstOffer (hc : Nat) (s : State) : List ClaimEntry → Option Offer
  | [] => none
  | e :: rest =>
    match tryEntry hc s e with
    | .ok o => some o
    | .error _ => firstOffer hc s rest

/-- The entry is passed over for want of a free run (R151). -/
def lacksRun (hc : Nat) (s : State) (e : ClaimEntry) : Bool :=
  match tryEntry hc s e with
  | .error .noFreeRun => true
  | _ => false

/-- The answer of a resolution (R148). -/
inductive Answer where
  | run (o : Offer) (ranged : Bool)
  | tray
  | wait (outcome : WaitOutcome) (trayBound : Bool)
  deriving DecidableEq, Repr

/-- R149: the answer for a tray-bound board. (DEDUCED, log entry 24.) -/
def trayAnswer (s : State) : Answer :=
  if s.mode.options.tray then
    if s.route.trayCount < Config.trayLimit then .tray else .wait .trayFull true
  else .wait .unclaimed true

/-- R150, R151: the answer of the two passes over the claim table for a code and a component height. -/
def claimAnswer (code hc : Nat) (s : State) : Answer :=
  let table := s.route.claims.toList
  match firstOffer hc s (table.filter (·.direct code)) with
  | some o => .run o false
  | none =>
    match firstOffer hc s (table.filter (·.ranged code)) with
    | some o => .run o true
    | none =>
      let matching := table.filter fun e => e.direct code || e.ranged code
      if !matching.isEmpty && matching.all (lacksRun hc s) then .wait .zoneFull false
      else if s.mode.options.tray && s.route.trayPolicy then trayAnswer s
      else .wait .unclaimed false

/-- R148: the resolution of a SINGLED board. -/
def resolve (ref : BoardRef) (s : State) : Answer :=
  let b := s.board? ref.job ref.board
  if ((b.map fun b => b.damage || b.xout).getD false) then trayAnswer s
  else claimAnswer (s.product ref.job ref.board) (((s.jobRecipe? ref.job).map (·.hc)).getD 0) s

/-- R154, step 2: the flag of an outcome. -/
def WaitOutcome.flag : WaitOutcome → Flag
  | .unclaimed => .unclaimed
  | .zoneFull => .zoneFull
  | .trayFull => .trayFull

/-- R152, R154: the effect of an answer on the slot map, the board record, the destination-wait record and the flags. -/
def applyAnswer (ref : BoardRef) (a : Answer) (s : State) : State :=
  match a with
  | .run o ranged =>
    let s := reserveRun o.bay o.first
      { job := ref.job, board := ref.board, product := s.product ref.job ref.board, ranged := ranged, count := o.count,
        cause := none } s
    let s := s.updBoard ref.job ref.board fun b => { b with dest := .run o.bay o.first o.count, ranged := ranged }
    s.updRoute fun r => { r with wait := none }
  | .tray =>
    let s := s.updRoute fun r => { r with trayInProgress := true }
    let s := s.updBoard ref.job ref.board fun b => { b with dest := .tray, ranged := false }
    s.updRoute fun r => { r with wait := none }
  | .wait outcome bound =>
    let before := s.route.wait.map (·.outcome)
    let w : WaitRec := { ref := ref, product := s.product ref.job ref.board, outcome := outcome, trayBound := bound }
    let s := s.updRoute fun r => { r with wait := some w }
    if before = some outcome then s else raiseFlag outcome.flag s

/-- R135: the board on the head is resolved, at its singling or after its run was dropped (R139): the head becomes TRANSFER,
and a TRANSFER or a PARK WAIT motion is called for. -/
def routeBoard (ref : BoardRef) (s : State) : State :=
  let s := s.updPick fun p => { p with head := .transfer }
  let a := resolve ref s
  let s := applyAnswer ref a s
  match a with
  | .wait _ _ => startMotion .parkWait s
  | _ => startMotion .transfer s

/-- R153, R135: a waiting board is resolved again. A destination is answered with a TRANSFER motion from wherever the head
stands; a wait again changes nothing of the head. -/
def retryWait (s : State) : State :=
  match s.route.wait with
  | none => s
  | some w =>
    let a := resolve w.ref s
    let s := applyAnswer w.ref a s
    match a with
    | .wait _ _ => s
    | _ => startMotion .transfer s

/-- R138, step 3: what was kept for a dropped board is given up. -/
def releaseDestination (ref : BoardRef) (dest : Destination) (s : State) : State :=
  let s := match dest with
    | .run b first count => freeRun b first count s
    | .tray => s.updRoute fun r => { r with trayInProgress := false }
    | .none => s
  s.updRoute fun r => { r with wait := r.wait.filter (·.ref != ref) }

/-- R138: the carried board is dropped before its release. -/
def dropCarried (ref : BoardRef) (s : State) : State :=
  let dest := carriedDest s
  let s := s.updPick fun p => { p with motion := .none }
  let s := boardEvent ref.job ref.board .vacuumLost s
  let s := raiseFlag .drop (releaseDestination ref dest s)
  startMotion .ret (s.updPick fun p => { p with demand := false, carried := none, head := .returning })

end Sys2Proof.Machine
end

