-- ==== Sys2Proof/Machine/ToolOps.lean ====
section
/-! DEFINITION. The Tool Monitor's shared operations: the flute geometry (R84), the pass computation (R86 to R94), HARD
outcomes and expiry (R95 to R98), and the changer operation on BAY DRIVE (R120 to R125). -/

namespace Sys2Proof.Machine

/-! ## Sums over the segment table (R85, R100) -/

/-- The remaining wear of a segment: 0 once it is left (R100). -/
def Segment.remaining (g : Segment) : Nat := if g.cause = .opened then g.share - g.used else 0

/-- The forfeit of a segment: 0 while it is OPEN (R85, R100). -/
def Segment.forfeit (g : Segment) : Nat := if g.cause = .opened then 0 else g.share - g.used

/-- The used wear over all segments. -/
def usedTotal (l : List Segment) : Nat := total (l.map (·.used))

/-- The forfeits over all segments. -/
def forfeitTotal (l : List Segment) : Nat := total (l.map Segment.forfeit)

/-- The remaining wear over all segments. -/
def remainingTotal (l : List Segment) : Nat := total (l.map Segment.remaining)

/-! ## Reports -/

/-- TOOL STATE of a record (R126). -/
def toolReportOf (c : ToolCause) (t : ToolRec) : ToolReport :=
  { cause := c, state := t.state, desc := if t.state = .none then none else t.desc, n := t.n, k := t.k,
    used := usedTotal t.segs, forfeits := forfeitTotal t.segs, remaining := remainingTotal t.segs, charged := t.charged,
    rackCount := t.rack.length, op := t.op }

/-- Queue a TOOL STATE report of the record as it stands (R126). -/
def toolReport (c : ToolCause) (s : State) : State := queueReport (.toolState (toolReportOf c s.tool)) s

/-! ## Geometry (R84) -/

/-- The segment count: min(nreq, floor(U / s)), raised to 1 (R84, step 1). -/
def segmentCount (d : BitDesc) : Nat := max 1 (min d.nreq (d.u / d.s))

/-- The segment shares: q for every segment but the last, which takes the rest of Lb (R84, steps 2 and 3). -/
def segmentShares (d : BitDesc) : List Nat :=
  let n := segmentCount d
  let q := d.lb / n
  List.replicate (n - 1) q ++ [d.lb - (n - 1) * q]

/-- A bit is fitted: the record is rebuilt whole from its descriptor (R84). Rack and operation are kept. -/
def fitBit (d : BitDesc) (t : ToolRec) : ToolRec :=
  { t with
    state := .fitted, desc := some d, n := segmentCount d, q := d.lb / segmentCount d,
    segs := (segmentShares d).map fun share => { share := share, used := 0, cause := .opened },
    k := 0, charged := 0, hardCount := 0 }

/-- The bit state becomes NONE: the record is emptied (R82). Rack and operation are kept. -/
def clearBit (t : ToolRec) : ToolRec :=
  { t with state := .none, desc := none, n := 0, q := 0, segs := [], k := 0, charged := 0, hardCount := 0 }

/-! ## The changer operation (R120, R121) -/

/-- R121: an operation in WAITING or HALTED is requested of BAY DRIVE when the mode is RUN. -/
def startChanger (s : State) : State :=
  match s.tool.op with
  | none => s
  | some op =>
    if op.phase ≠ .moving ∧ s.mode.mode = .run then
      let req := nextReq .bay s
      let s := sendRequest .bay (.toolChange op.entry) s
      let s := s.updTool fun t =>
        { t with op := some { op with
            phase := .moving, attempts := min Config.attemptsCap (op.attempts + 1), req := some req } }
      toolReport .changeStarted s
    else s

/-- R120: the decision to change. The bit becomes CHANGING, an operation is created for the rack's head, TOOL STATE is queued,
and the start is tried at once. -/
def decideChange (c : ToolCause) (entry : BitDesc) (s : State) : State :=
  let s := s.updTool fun t =>
    { t with state := .changing, op := some { phase := .waiting, entry := entry, attempts := 0, req := none } }
  startChanger (toolReport c s)

/-- R115: the rack's head when the change condition holds of an EXPIRED bit. -/
def changeEntry? (s : State) : Option BitDesc :=
  if s.tool.state = .expired ∧ s.mode.options.changer = true then s.tool.rack.head? else none

/-- R120, at an accepted RACK BIT or CONFIGURE: a change is decided if the change condition is true. -/
def tryChange (c : ToolCause) (s : State) : State :=
  match changeEntry? s with
  | some entry => decideChange c entry s
  | none => s

/-- R98: a segment still OPEN is closed with leave cause EXPIRED. -/
def closeSegment (g : Segment) : Segment := if g.cause = .opened then { g with cause := .expired } else g

/-- R98, R120: the bit expires. Every OPEN segment is closed, the HARD count becomes 0 and the state EXPIRED; then a change
is decided, or TOOL EXPIRED raised and the expiry reported. -/
def expireBit (c : ToolCause) (s : State) : State :=
  let s := s.updTool fun t => { t with segs := t.segs.map closeSegment, hardCount := 0, state := .expired }
  match changeEntry? s with
  | some entry => decideChange c entry s
  | none => toolReport c (raiseFlag .toolExpired s)

/-! ## The pass computation (R86 to R94) -/

/-- The path length L = w + d + 2·o (R87). -/
def pathLength (w d o : Nat) : Nat := w + d + 2 * o

/-- The wear debit D = ceil(L · t / 10000) (R90). -/
def wearDebit (len t : Nat) : Nat := ceilDiv (len * t) 10000

/-- The effective feed of segment k of n (R88). -/
def effectiveFeed (f k n : Nat) : Nat := if k + 1 < n then f else max 1 (3 * f / 4)

/-- The pass time T = ceil(10·L / f_eff) (R88). -/
def passTime (len feed : Nat) : Nat := ceilDiv (10 * len) feed

/-- The cut watch period W = 2·T + 250 (R89). -/
def watchPeriod (time : Nat) : Nat := 2 * time + 250

/-- The nominal depth z = t + b + k·s + (p − 1)·10 (R93). -/
def nominalDepth (t b k s p : Nat) : Nat := t + b + k * s + (p - 1) * Config.passStep

/-- R91 over the segments from the current one on: each that holds less than D is left WORN; the place of the first that can
pay, or `none` when the last is left as well. -/
def wearScan (debit : Nat) : List Segment → List Segment × Option Nat
  | [] => ([], none)
  | g :: rest =>
    if debit ≤ g.share - g.used then (g :: rest, some 0)
    else
      let r := wearScan debit rest
      ({ g with cause := .worn } :: r.1, r.2.map (· + 1))

/-- What the Cut Sequencer sends with a pass start (R68). -/
structure PassAsk where
  w : Nat
  p : Nat
  recipe : Recipe

/-- The grant's figures for the segment that the wear check settled (R86, steps 5 to 7). -/
def grantFor (ask : PassAsk) (d : BitDesc) (k n : Nat) : Grant :=
  let len := pathLength ask.w d.d ask.recipe.o
  let feed := effectiveFeed ask.recipe.f k n
  let time := passTime len feed
  let z := nominalDepth ask.recipe.t ask.recipe.b k d.s ask.p
  { k := k, depth := min z ask.recipe.zc, clamped := ask.recipe.zc < z, pathLen := len, feed := feed, time := time,
    watch := watchPeriod time, debit := wearDebit len ask.recipe.t }

/-- R86: the Tool Monitor takes a pass request. `none` is "no bit". A grant has charged its debit (R92). -/
def askPass (ask : PassAsk) (s : State) : State × Option Grant :=
  match s.tool.state, s.tool.desc with
  | .fitted, some d =>
    let debit := wearDebit (pathLength ask.w d.d ask.recipe.o) ask.recipe.t
    let scan := wearScan debit (s.tool.segs.drop s.tool.k)
    let segs := s.tool.segs.take s.tool.k ++ scan.1
    match scan.2 with
    | some i =>
      let k := s.tool.k + i
      (s.updTool fun t =>
        { t with
          segs := segs.modify k fun g => { g with used := g.used + debit }
          k := k, charged := t.charged + 1 },
       some (grantFor ask d k s.tool.n))
    | none => (expireBit .expiredWorn (s.updTool fun t => { t with segs := segs, k := t.n - 1 }), none)
  | _, _ => (s, none)

/-! ## Outcomes (R95 to R97) -/

/-- R95 to R97: the outcome of a completed pass reaches the Tool Monitor. -/
def toolOutcome (c : LoadClass) (s : State) : State :=
  match c with
  | .clean | .shallow => s.updTool fun t => { t with hardCount := 0 }
  | .hard =>
    let k := s.tool.k
    let left := s.updTool fun t => { t with segs := t.segs.modify k fun g => { g with cause := .hard } }
    if s.tool.hardCount = 0 then
      if k + 1 < s.tool.n then left.updTool fun t => { t with k := k + 1, hardCount := 1 }
      else expireBit .expiredHard left
    else expireBit .expiredTwiceHard left

/-- R124: a stop halts a MOVING operation. -/
def haltChanger (s : State) : State :=
  match s.tool.op with
  | some op =>
    if op.phase = .moving then
      toolReport .halted (s.updTool fun t => { t with op := some { op with phase := .halted, req := none } })
    else s
  | none => s

/-- R123: a MOVING operation ends as a failure: the rack's head is discarded, the bit becomes NONE and CHANGER FAULT is
raised. -/
def failChanger (c : ToolCause) (s : State) : State :=
  let s := s.updTool fun t => clearBit { t with rack := t.rack.drop 1, op := none }
  toolReport c (raiseFlag .changerFault s)

/-- R122, R123: the request number is that of the tool change now MOVING. -/
def State.movingChange (s : State) (req : ReqNo) : Bool :=
  match s.tool.op with
  | some op => op.phase == .moving && op.req == some req
  | none => false

/-- The changer operation is MOVING, so its watch runs (R116). -/
def State.changerMoving (s : State) : Bool :=
  match s.tool.op with
  | some op => op.phase == .moving
  | none => false

end Sys2Proof.Machine
end

