-- ==== Sys2Proof/Machine/SeqOps.lean ====
section
/-! DEFINITION. The Cut Sequencer's shared operations: the pass start and the pass request (R67, R68, R70), taking up boards
(R59 to R61), the hold-pending list (R64), the next-pass choice (R66); and the giving up of a hold (R131, R133), which is one
of its choice points. -/

namespace Sys2Proof.Machine

/-- A tab record, by job tag, board index and ring index. -/
def State.tab? (s : State) (tag i ring : Nat) : Option TabRec := (s.board? tag i).bind fun b => b.tabs[ring]?

/-- A tab's entry in its job's recipe. -/
def State.tabEntry? (s : State) (tag i ring : Nat) : Option TabEntry :=
  (s.boardEntry? tag i).bind fun b => b.tabs[ring]?

/-- R67, R132: the Pick Controller's answer that it holds the board with vacuum made. -/
def State.holdsBoard (s : State) (tag i : Nat) : Bool :=
  s.pick.served == some { job := tag, board := i } && s.pick.head == .holding && !s.pick.holdLost

/-! ## The pass start (R68 to R70) -/

/-- R70: the pass is requested of SPINDLE GANTRY. On a held tab the held-pass mark is set with the request (R132). (DEDUCED,
log entry 12.) -/
def requestPass (tag i ring : Nat) (held : Bool) (p : Nat) (dir : Axis) (g : Grant) (s : State) : State :=
  let req := nextReq .spindle s
  let pos := (s.positions tag i)[ring]?.getD (0, 0)
  let s := sendRequest .spindle (.pass pos.1 pos.2 dir g.pathLen g.depth g.feed) s
  let r : PassRec := { job := tag, board := i, ring := ring, held := held, p := p, grant := g, req := req }
  let s := s.updSeq fun q =>
    { q with posX := pos.1, posY := pos.2, pass := some r, fixed := none, state := .pass }
  let s := if g.clamped then s.updTab tag i ring fun t => { t with clamped := true } else s
  if held then s.updPick fun k => { k with heldPass := true } else s

/-- R68, R69: the pass start. The Tool Monitor is asked with the pass number "passes used plus one"; on a grant the pass is
requested, on no bit the sequencer enters TOOL WAIT with the pass fixed. -/
def startPass (tag i ring : Nat) (held : Bool) (s : State) : State :=
  match s.jobRecipe? tag, s.tabEntry? tag i ring, s.tab? tag i ring with
  | some r, some e, some t =>
    match askPass { w := e.w, p := t.used + 1, recipe := r } s with
    | (s, some g) => requestPass tag i ring held (t.used + 1) e.dir g s
    | (s, none) =>
      s.updSeq fun q => { q with state := .toolWait, fixed := some { board := i, ring := ring, reason := .tool } }
  | _, _, _ => s

/-! ## Boards (R59 to R65) -/

/-- R64: the current board enters the hold-pending list and its hold is requested. -/
def enterHoldList (tag i : Nat) (s : State) : State :=
  let s := boardEvent tag i .downToHeld s
  let s := s.updSeq fun q => { q with holdList := q.holdList ++ [i] }
  let s := requestHold tag i s
  s.updSeq fun q => { q with board := none, order := [] }

/-- R59 to R61: a board is taken up: it becomes the current board and CUTTING, and its cut order is computed. -/
def takeBoard (tag i : Nat) (s : State) : State :=
  let ps := s.positions tag i
  let ascending := ringAscending (((s.job? tag).map (·.orientation)).getD 0)
  let s := s.updSeq fun q =>
    { q with board := some i, order := cutOrder ps.length (startTab q.posX q.posY ps) ascending }
  boardEvent tag i .takenUp s

/-- R62: the current board's next tab: the first of its cut order, the held tab left out, that is still PENDING. -/
def nextTab (tag i : Nat) (s : State) : Option Nat :=
  s.seq.order.dropLast.find? fun ring => ((s.tab? tag i ring).map (·.state)) == some .pending

/-- The ring index of a board's held tab once every other tab has left PENDING (R64): its one PENDING tab. (DEDUCED, log
entry 31.) -/
def heldTab (tag i : Nat) (s : State) : Option Nat :=
  (s.board? tag i).bind fun b => b.tabs.findIdx? fun t => t.state == .pending

/-- R66, steps 5 and 6: no pass can be chosen. -/
def stallOrFinish (s : State) : State :=
  s.updSeq fun q => { q with state := if q.holdList.isEmpty then .finishing else .awaitHold }

/-- R66, step 4, over the WAITING boards from the lowest index on: an X-out board with no tray is skipped as LEFT (R59), a board
of one tab enters the hold-pending list (R64) and the choice goes on, and a board of more tabs has its first tab cut. The
choice ends with the give-up when a skip completes the job (R79). -/
def takeBoards (tag : Nat) : List Nat → State → State
  | [], s => stallOrFinish s
  | i :: rest, s =>
    if Config.holdLimit ≤ s.seq.holdList.length then stallOrFinish s
    else if ((s.board? tag i).map (·.xout)).getD false && !s.mode.options.tray then
      let s := boardEvent tag i .passedOver s
      if s.seq.job = tag then takeBoards tag rest s else s
    else
      let s := takeBoard tag i s
      match nextTab tag i s with
      | some ring => startPass tag i ring false s
      | none => takeBoards tag rest (enterHoldList tag i s)

/-- The WAITING boards of a job in ascending board index (R59). -/
def waitingBoards (tag : Nat) (s : State) : List Nat :=
  match s.job? tag with
  | some j => (j.boards.filter fun b => b.state == .waiting).map (·.index)
  | none => []

/-! ## The choice (R66) -/

/-- R66, step 2: the head of the hold-pending list with its held tab, when it is HELD (R67). -/
def grantedHold (tag : Nat) (s : State) : Option (Nat × Nat) :=
  match s.seq.holdList with
  | [] => none
  | i :: _ =>
    if s.boardState tag i = some .held ∧ s.holdsBoard tag i = true then (heldTab tag i s).map fun ring => (i, ring)
    else none

/-- R66, steps 2 to 6. -/
def chooseFresh (tag : Nat) (s : State) : State :=
  match grantedHold tag s with
  | some (i, ring) => startPass tag i ring true s
  | none =>
    match s.seq.board.bind fun i => (nextTab tag i s).map fun ring => (i, ring) with
    | some (i, ring) => startPass tag i ring false s
    | none => takeBoards tag (waitingBoards tag s) s

/-- R66, step 1, R67: whether the fixed pass is made: `some held` when its tab is still PENDING and its board CUTTING, or HELD and
held with vacuum made. -/
def fixedReady (tag : Nat) (f : FixedPass) (s : State) : Option Bool :=
  if ((s.tab? tag f.board f.ring).map (·.state)) = some .pending then
    match s.boardState tag f.board with
    | some .cutting => some false
    | some .held => if s.holdsBoard tag f.board then some true else none
    | _ => none
  else none

/-- R66: the next-pass choice, in RUN. -/
def chooseInRun (tag : Nat) (s : State) : State :=
  match s.seq.fixed with
  | none => chooseFresh tag s
  | some f =>
    match fixedReady tag f s with
    | some held => startPass tag f.board f.ring held s
    | none => chooseFresh tag (s.updSeq fun q => { q with fixed := none })

/-- R66: a choice point. It is made only with a current job, no pass in flight and no withdrawal pending; outside RUN the
sequencer becomes READY and keeps a fixed pass. -/
def chooseNext (s : State) : State :=
  if s.seq.job = 0 ∨ s.seq.pass.isSome = true ∨ s.withdrawing s.seq.job = true then s
  else if s.mode.mode = .run then chooseInRun s.seq.job s
  else s.updSeq fun q => { q with state := .ready }

/-- R75: a choice point of a sequencer in AWAIT HOLD. -/
def chooseIfAwaiting (s : State) : State := if s.seq.state = .awaitHold then chooseNext s else s

/-- R69, R115: the report of a fitted bit is a choice point of a sequencer in TOOL WAIT. -/
def reportFitted (s : State) : State := if s.seq.state = .toolWait then chooseNext s else s

/-- R58: the sequencer takes a job up. -/
def takeUpJob (tag : Nat) (s : State) : State :=
  chooseNext (s.updSeq fun q =>
    { q with job := tag, posX := 0, posY := 0, board := none, order := [], holdList := [], fixed := none })

/-- R76: the entry into RUN is a choice point of a sequencer that is READY or AWAIT HOLD. -/
def sequencerEntersRun (s : State) : State :=
  if s.seq.state = .ready ∨ s.seq.state = .awaitHold then chooseNext s else s

/-! ## Holds given up or lost (R131, R133, R134) -/

/-- R131, R133: the hold is given up after the retry. -/
def giveUpHold (ref : BoardRef) (s : State) : State :=
  let s := s.updPick fun p => { p with demand := false, vacWatch := false }
  let s := raiseFlag .holdFail (boardEvent ref.job ref.board .holdGivenUp s)
  chooseIfAwaiting (returnEmpty (leaveHoldList ref.job ref.board s))

/-- R133: a made hold is lost with no pass in flight: the board is HOLD PENDING again, and the hold is sought again or, with the
retry spent, given up. -/
def loseHold (ref : BoardRef) (s : State) : State :=
  let s := s.updPick fun p => { p with demand := false }
  let s := boardEvent ref.job ref.board .holdSoughtAgain s
  if s.pick.retry then giveUpHold ref s
  else startMotion .approach (s.updPick fun p => { p with retry := true, head := .approach })

/-- R134: the Pick Controller acts on the decision of a completed pass on a held tab. -/
def heldOutcome (ref : BoardRef) (d : Decision) (s : State) : State :=
  let lost := s.pick.holdLost
  let s := s.updPick fun p => { p with heldPass := false, holdLost := false }
  match d with
  | .severed =>
    if lost then
      let s := raiseFlag .drop (boardEvent ref.job ref.board .severedUnheld s)
      returnEmpty (leaveHoldList ref.job ref.board s)
    else
      let s := leaveHoldList ref.job ref.board (boardEvent ref.job ref.board .severedHeld s)
      routeBoard ref (s.updPick fun p => { p with carried := some ref, served := none })
  | .anotherPass => if lost then loseHold ref s else s
  | .failed => returnEmpty (leaveHoldList ref.job ref.board s)
  | .none => s

end Sys2Proof.Machine
end

