-- ==== Sys2Proof/Machine/VerifyOps.lean ====
section
/-! DEFINITION. The Cut Verifier (R101 to R113), the end of a pass (R71, R73) and the abandonment of a withdrawn job's boards
(R35, R142). -/

namespace Sys2Proof.Machine

/-- R104: the decision of a completion. -/
def decideTab (c : LoadClass) (used limit : Nat) : Decision :=
  match c with
  | .clean => .severed
  | _ => if used < limit then .anotherPass else .failed

/-- The tab state a decision gives (R104). -/
def Decision.tabState : Decision → TabState
  | .severed => .severed
  | .failed => .failed
  | _ => .pending

/-- How a completed pass ended (R113). -/
def passEnding : LoadClass → PassEnding
  | .clean => .clean
  | .shallow => .shallow
  | .hard => .hard

/-- R103 to R105: the tab record after a completion. -/
def countPass (c : LoadClass) (d : Decision) (t : TabRec) : TabRec :=
  { t with state := d.tabState, used := t.used + 1, hard := t.hard || c == .hard }

/-- A TAB DONE report of a pass (R113): its tab and damage mark are those given here, and no later part of the step changes
them (DESIGN CHOICE, log entry 44). -/
def tabReportOf (r : PassRec) (ending : PassEnding) (overrun : Bool) (stop : Option StopCause) (d : Decision) (t : TabRec)
    (damage : Bool) : TabReport :=
  { job := r.job, board := r.board, ring := r.ring, held := r.held, p := r.p, k := r.grant.k, depth := r.grant.depth,
    clamped := r.grant.clamped, ending := ending, overrun := overrun, stopCause := stop, decision := d, tab := t,
    damage := damage }

/-- R105, step 4: the board's consequence (R106 to R109). -/
def boardConsequence (r : PassRec) (d : Decision) (s : State) : State :=
  let ref : BoardRef := { job := r.job, board := r.board }
  match d with
  | .failed =>
    let s := boardEvent r.job r.board .tabFailed s
    if r.held then heldOutcome ref d s else leaveCurrent r.job r.board s
  | _ => if r.held then heldOutcome ref d s else s

/-- R105: the Verifier applies a completion. TAB DONE shows the tab and the damage mark as this decision leaves them, not as
the whole step does (DESIGN CHOICE, log entry 44). -/
def verifyPass (r : PassRec) (c : LoadClass) (overrun : Bool) (s : State) : State :=
  match s.tab? r.job r.board r.ring, s.board? r.job r.board, s.jobRecipe? r.job with
  | some t, some b, some recipe =>
    let d := decideTab c (t.used + 1) recipe.passLimit
    let after := countPass c d t
    let s := queueReport (.tabDone (tabReportOf r (passEnding c) overrun none d after (b.damage || overrun))) s
    let s := if overrun then s.updBoard r.job r.board fun b => { b with damage := true } else s
    let s := s.updTab r.job r.board r.ring fun _ => after
    toolOutcome c (boardConsequence r d s)
  | _, _, _ => s

/-! ## Abandonment (R35, R142) -/

/-- R142: what the head does when the board it serves is abandoned. -/
def releaseAbandoned (ref : BoardRef) (s : State) : State :=
  if s.pick.served = some ref ∧ (s.pick.head = .approach ∨ s.pick.head = .holding) then returnEmpty s else s

/-- R35, step 2, of one board: a board in WAITING, CUTTING, HOLD PENDING or HELD enters ABANDONED; the Cut Sequencer and the Pick
Controller are told of it (R78, R142). -/
def abandonBoard (tag i : Nat) (s : State) : State :=
  match moveBoard tag i .abandoned s with
  | (s, some _) =>
    releaseAbandoned { job := tag, board := i } (leaveHoldList tag i (leaveCurrent tag i s))
  | (s, none) => s

/-- R35, step 2: every board of a job that is not in motion or final enters ABANDONED, in board index order, which no rule gives.
(DESIGN CHOICE, log entry 43.) -/
def abandonBoards (tag : Nat) (s : State) : State :=
  match s.job? tag with
  | some j => (j.boards.map (·.index)).foldl (fun s i => abandonBoard tag i s) s
  | none => s

/-- R35, R36: once no pass is in flight on a CUTTING job whose withdrawal is pending, its boards are abandoned, and its
completion is tested. -/
def abandonIfWithdrawing (tag : Nat) (s : State) : State :=
  match s.job? tag with
  | some j =>
    if j.state = .cutting ∧ j.cause ≠ .none ∧ s.seq.pass = none then completeJob tag (abandonBoards tag s) else s
  | none => s

/-! ## The end of a pass (R71, R73) -/

/-- R71, step 4: the board of the pass enters the hold-pending list if it is still CUTTING and every tab but its held tab is
SEVERED. -/
def holdEntry (tag i : Nat) (s : State) : State :=
  if s.seq.job = tag ∧ s.seq.board = some i ∧ s.boardState tag i = some .cutting ∧
      (s.seq.order.dropLast.all fun ring => ((s.tab? tag i ring).map (·.state)) == some .severed) = true then
    enterHoldList tag i s
  else s

/-- R71, R78: a completion ends the pass in flight. -/
def completePass (r : PassRec) (c : LoadClass) (overrun : Bool) (s : State) : State :=
  let s := verifyPass r c overrun (s.updSeq fun q => { q with pass := none })
  if s.withdrawing r.job then
    abandonIfWithdrawing r.job
      (s.updSeq fun q => if q.job = r.job then { q with state := .finishing } else q)
  else chooseNext (holdEntry r.job r.board s)

/-- R73, R78, R111: a stop interrupts the pass in flight. TAB DONE shows the tab as the interruption leaves it, not as the
whole step does (DESIGN CHOICE, log entry 44). -/
def interruptPass (cause : StopCause) (s : State) : State :=
  match s.seq.pass with
  | none => s
  | some r =>
    let s := match s.tab? r.job r.board r.ring, s.board? r.job r.board with
      | some t, some b =>
        queueReport (.tabDone
          (tabReportOf r .interrupted false (some cause) .none { t with interrupted := true } b.damage)) s
      | _, _ => s
    let s := s.updTab r.job r.board r.ring fun t => { t with interrupted := true }
    if s.withdrawing r.job then s.updSeq fun q => { q with pass := none, state := .finishing }
    else
      s.updSeq fun q =>
        { q with pass := none, state := .ready
                 fixed := some { board := r.board, ring := r.ring, reason := .resume } }

/-- R141: in the step of a stop the held-pass mark is cleared, and a hold lost during the interrupted pass is taken as a loss
with no pass in flight. -/
def settleHeldPass (s : State) : State :=
  let lost := s.pick.heldPass && s.pick.holdLost
  let s := if s.pick.heldPass then s.updPick fun p => { p with heldPass := false, holdLost := false } else s
  match s.pick.served with
  | some ref => if lost then loseHold ref s else s
  | none => s

end Sys2Proof.Machine
end

