-- ==== Sys2Proof/Machine/ModeOps.lean ====
section
/-! DEFINITION. The Mode Controller's shared operations: line-hold outputs (R197), the entries into RUN and PAUSED (R191), pause
causes (R189, R194), park motions (R195), stops (R192), homing (R191, R141). -/

namespace Sys2Proof.Machine

/-! ## Cause sets -/

/-- The pause-cause set holds a cause. -/
def PauseCauses.any (p : PauseCauses) : Bool := p.host || p.line

/-- The set with a stop cause. -/
def StopCauses.add (c : StopCauses) : StopCause → StopCauses
  | .estop => { c with estop := true }
  | .door => { c with door := true }
  | .driveFault => { c with driveFault := true }
  | .cutWatch => { c with cutWatch := true }

/-- The stop-cause set holds a cause. -/
def StopCauses.any (c : StopCauses) : Bool := c.estop || c.door || c.driveFault || c.cutWatch

/-- No stop cause. -/
def noStops : StopCauses := { estop := false, door := false, driveFault := false, cutWatch := false }

/-! ## Line holds (R189, R197) -/

/-- R197: the level of a line strapped OUT: asserted while its use is OUT and the cell is STOPPED or the other line is in use as
IN and asserted. -/
def outLevel (use otherUse : LineUse) (otherLevel : Bool) (mode : Mode) : Bool :=
  use == .output && (mode == .stopped || (otherUse == .input && otherLevel))

/-- R197: the mode record with the line-hold outputs set. A line strapped IN is never driven and keeps its level. -/
def drivenLines (m : ModeRec) : ModeRec :=
  { m with
    upLevel := match m.straps.upline with
      | .output => outLevel m.options.upUse m.options.downUse m.downLevel m.mode
      | .input => m.upLevel
    downLevel := match m.straps.downline with
      | .output => outLevel m.options.downUse m.options.upUse m.upLevel m.mode
      | .input => m.downLevel }

/-- R197: the line-hold outputs are set; a change of one is an event of CELL STATE (R200). -/
def setOutputs (s : State) : State :=
  let m := drivenLines s.mode
  let changed := m.upLevel != s.mode.upLevel || m.downLevel != s.mode.downLevel
  let s := s.updMode fun _ => m
  if changed then markCell .lineOut s else s

/-- R189: at least one line in use as IN is asserted. -/
def lineHeld (m : ModeRec) : Bool :=
  (m.options.upUse == .input && m.upLevel) || (m.options.downUse == .input && m.downLevel)

/-! ## Entries into RUN and PAUSED (R191) -/

/-- R191: what was held back starts at the entry into RUN: the Shuttle Controller's moves (R54), the Cut Sequencer's choice
(R76), the held pick motion and the serving of the hold queue (R129, R128), the changer operation (R121) and the held latch
motions (R178), in the order R191 lists them. (DEDUCED, log entry 15.) -/
def enterRun (s : State) : State :=
  let s := sequencerEntersRun (shuttlesEnterRun s)
  let s := serveTest (startHeldMotion s)
  allBays.foldl (fun s b => openHeldLatch b s) (startChanger s)

/-- R191: the pick and latch motions that PAUSED allows start at the entry into PAUSED, if they were held. -/
def enterPaused (s : State) : State := allBays.foldl (fun s b => openHeldLatch b s) (startHeldMotion s)

/-- R191: the mode changes; the outputs follow (R197), every block is told, and CELL STATE is due. -/
def setMode (m : Mode) (s : State) : State :=
  let s := markCell .mode (setOutputs (s.updMode fun r => { r with mode := m }))
  match m with
  | .run => enterRun s
  | .paused => enterPaused s
  | _ => s

/-! ## Park motions (R195) -/

/-- The group has a motion in flight (R195). -/
def groupBusy (s : State) : Group → Bool
  | .spindle => s.seq.pass.isSome
  | .pick => match s.pick.motion with
    | .inFlight _ _ => true
    | _ => false
  | .shuttle => s.shut.a.moveReq.isSome || s.shut.b.moveReq.isSome
  | .bay => s.changerMoving || s.bay.bays.toList.any fun r => match r.latch with
    | .inFlight _ => true
    | _ => false

/-- R195: in PARKING a group that has no motion in flight is sent its park motion, once the pause-cause set is empty. -/
def parkGroup (s : State) (g : Group) : State :=
  if s.mode.mode = .parking ∧ s.mode.pause.any = false ∧ groupBusy s g = false ∧ (s.mode.parkReq.get g) = none ∧
      s.mode.parkDone.get g = false then
    let req := nextReq g s
    sendRequest g .park (s.updMode fun m => { m with parkReq := m.parkReq.set g (some req) })
  else s

/-- R195: the test of every group. -/
def parkTest (s : State) : State := groups.foldl parkGroup s

/-! ## Pause causes (R189, R191, R193, R194) -/

/-- R191: the mode follows the pause-cause set from RUN and PAUSED; in PARKING the last cause's removal lets the park motions
start (R195); in the other modes it stands. -/
def followPause (s : State) : State :=
  match s.mode.mode with
  | .run => if s.mode.pause.any then setMode .paused s else s
  | .paused => if s.mode.pause.any then s else setMode .run s
  | .parking => parkTest s
  | _ => s

/-- The pause-cause set becomes a given set; a change is an event of CELL STATE (R200), and the mode follows. -/
def setPause (p : PauseCauses) (s : State) : State :=
  if s.mode.pause = p then s
  else followPause (markCell .cause (s.updMode fun m => { m with pause := p }))

/-! ## Stops (R192) -/

/-- R141: what a stop does to the head's motion and watches. -/
def stopPick (p : PickRec) : PickRec := { p with motion := holdMotion p.motion, vacWatch := false, placeWatch := false }

/-- R192: homing or park motion in progress, in the mode in which the stop was taken, is abandoned: the groups referenced and
the park progress are emptied. With neither in progress both sets stand. (DEDUCED, log entry 10.) -/
def abandonHoming (before : Mode) (m : ModeRec) : ModeRec :=
  if before = .homing ∨ before = .parking then
    { m with
      referenced := State.noGroups, parkDone := State.noGroups, refReq := PerGroup.const none,
      parkReq := PerGroup.const none }
  else m

/-- R192, step 2: every block interrupts what it has in flight: the pass (R73, R141) and with it a withdrawal that waited for
it (R35), the shuttle moves (R55), the pick motions (R141), the changer operation (R124), the latch motions (R178), homing
and park. (DEDUCED, log entry 17.) -/
def stopBlocks (before : Mode) (cause : StopCause) (s : State) : State :=
  let pass := s.seq.pass
  let s := settleHeldPass (interruptPass cause s)
  let s := match pass with
    | some r => abandonIfWithdrawing r.job s
    | none => s
  let s := s.updShut fun c => { c with a := interruptMove c.a, b := interruptMove c.b }
  let s := haltChanger (s.updPick stopPick)
  let s := s.updBay fun c => { c with bays := c.bays.map holdLatch }
  s.updMode (abandonHoming before)

/-- R192: a group is sent a halt, which is a request: it takes the group's next number and is in flight from its sending, the
last halt's end (R1; 00_scope.md, "Functional block diagram"). (DEDUCED, log entry 26.) -/
def haltGroup (s : State) (g : Group) : State :=
  let req := nextReq g s
  sendRequest g .halt (s.updMode fun m => { m with haltReq := m.haltReq.set g (some req) })

/-- R192, step 1: every group is sent a halt. -/
def haltGroups (s : State) : State := groups.foldl haltGroup s

/-- R192: a stop cause is added. In STOPPED it joins the set; in any other mode the groups are sent a halt, the blocks
interrupt their operations, and the mode becomes STOPPED. The blocks act on the mode STOPPED. (DEDUCED, log entry 9.) -/
def addStop (cause : StopCause) (s : State) : State :=
  let s := markCell .cause (s.updMode fun m => { m with stop := m.stop.add cause })
  if s.mode.mode = .stopped then s
  else
    let s := haltGroups s
    let s := stopBlocks s.mode.mode cause (s.updMode fun m => { m with mode := .stopped })
    markCell .mode (setOutputs s)

/-- R190: the level of an interlock line. -/
def setInterlock (line : Interlock) (level : Bool) (m : ModeRec) : ModeRec :=
  match line with
  | .estop => { m with estopActive := level }
  | .door => { m with doorActive := level }

/-- R190: the stop cause of an interlock line. -/
def interlockCause : Interlock → StopCause
  | .estop => .estop
  | .door => .door

/-! ## Homing (R191) -/

/-- R191: a referencing request is sent to a group. -/
def referenceGroup (s : State) (g : Group) : State :=
  let req := nextReq g s
  sendRequest g (.reference s.mode.homing) (s.updMode fun m => { m with refReq := m.refReq.set g (some req) })

/-- R191: homing is entered: the set of groups referenced is emptied and every group is sent a referencing request with the
homing kind. -/
def requestReferencing (s : State) : State :=
  groups.foldl referenceGroup (s.updMode fun m => { m with referenced := State.noGroups })

/-- R193, R196: the mode becomes HOMING with a homing kind, and referencing is requested. -/
def startHoming (kind : HomingKind) (s : State) : State :=
  requestReferencing (setMode .homing (s.updMode fun m => { m with homing := kind }))

/-- R141, R168, R170: when homing completes, a placement still awaited is settled by reading the slot sensor of its bay: any
slot of the run shown occupied confirms it. A tray placement is settled as an expiry. (DEDUCED, log entry 34.) -/
def settleAwaited (occupied : List Nat) (s : State) : State :=
  match s.pick.awaited with
  | .none => s
  | .tray => losePlacement s
  | .run b first count =>
    if occupied.any fun i => first ≤ i && i < first + count then confirmRun b { first := first, count := count } s
    else losePlacement s

/-- R141: the vacuum watch is started afresh if the head is still APPROACH with the vacuum demand on. -/
def restartVacuumWatch (s : State) : State :=
  if s.pick.head = .approach ∧ s.pick.demand = true then s.updPick fun p => { p with vacWatch := true } else s

/-- R191: homing ends: the kind becomes IN PLACE, every block is told that homing has completed (R141), and the mode becomes RUN
or PAUSED. -/
def endHoming (occupied : List Nat) (s : State) : State :=
  let s := s.updMode fun m => { m with homing := .inPlace }
  let s := restartVacuumWatch (settleAwaited occupied s)
  setMode (if s.mode.pause.any then .paused else .run) s

/-- R143: a board that CELL RESET left under vacuum is released at PICK GANTRY's referencing-complete event. -/
def releaseCarry (s : State) : State :=
  if s.pick.resetCarry then s.updPick fun p => { p with demand := false, resetCarry := false } else s

end Sys2Proof.Machine
end

