-- ==== Sys2Proof/Machine/Operands.lean ====
section
/-! DEFINITION. The operands of a request: the fields of its payload (R203, and the layouts of 12_the_message_link.md), and the
receiver's frame check (R201). -/

namespace Sys2Proof.Machine

/-! ## The frame check (R201) -/

/-- One bit of the CRC: polynomial 0x1021, most significant bit first. -/
def crcBit (c : Word16) : Word16 := if c.msb then (c <<< 1) ^^^ 0x1021#16 else c <<< 1

/-- The CRC after one more byte, without reflection. -/
def crcByte (c : Word16) (b : Byte) : Word16 :=
  let c := c ^^^ (b.zeroExtend 16 <<< 8)
  crcBit (crcBit (crcBit (crcBit (crcBit (crcBit (crcBit (crcBit c)))))))

/-- R201: the CRC-16 of bytes in the order sent, initial value 0xFFFF, no final inversion. -/
def crc16 (bytes : List Byte) : Word16 := bytes.foldl crcByte 0xFFFF#16

/-! ## Reading fields -/

/-- A reader of a payload: the field and the bytes after it, or `none` where the bytes run out. -/
abbrev Reader (α : Type) := List Byte → Option (α × List Byte)

/-- A one-byte field. -/
def byte1 : Reader Nat
  | b :: rest => some (b.toNat, rest)
  | [] => none

/-- A two-byte field, little-endian. -/
def byte2 : Reader Nat
  | a :: b :: rest => some (a.toNat + 256 * b.toNat, rest)
  | _ => none

/-- The next n bytes. -/
def bytesN (n : Nat) : Reader (List Byte) := fun l => if n ≤ l.length then some (l.take n, l.drop n) else none

/-- A text: a length byte followed by that many characters. (DESIGN CHOICE, log entry 32.) -/
def text : Reader (List Byte) := fun l => (byte1 l).bind fun r => bytesN r.1 r.2

/-- A list of one-byte entries: a count byte followed by that many. -/
def byteList : Reader (List Nat) := fun l => (text l).map fun r => (r.1.map (·.toNat), r.2)

/-- n one-byte fields. -/
def bytes1 : Nat → Reader (List Nat)
  | 0 => fun l => some ([], l)
  | n + 1 => fun l => (byte1 l).bind fun r => (bytes1 n r.2).map fun q => (r.1 :: q.1, q.2)

/-- A field that is present or not. -/
def optional {α : Type} (present : Bool) (r : Reader α) : Reader (Option α) := fun l =>
  if present then (r l).map fun q => (some q.1, q.2) else some (none, l)

/-- A payload read whole: `none` when its length is not what the fields require (R203, step 3). -/
def whole {α : Type} (r : Reader α) (payload : List Byte) : Option α :=
  match r payload with
  | some (x, []) => some x
  | _ => none

/-- The payload is empty (R203). -/
def noFields : Reader Unit := fun l => some ((), l)

/-! ## LOAD RECIPE -/

/-- A tab entry as received, with the direction's code. -/
structure RawTab where
  tx : Nat
  ty : Nat
  w : Nat
  dir : Nat
  deriving DecidableEq, Repr

/-- A board entry as received. -/
structure RawBoard where
  index : Nat
  product : Nat
  ox : Nat
  oy : Nat
  tabs : List RawTab
  deriving DecidableEq, Repr

/-- A recipe as received; `boards` holds as many entries as the board count announces. -/
structure RawRecipe where
  number : Nat
  pw : Nat
  ph : Nat
  t : Nat
  hc : Nat
  f : Nat
  o : Nat
  b : Nat
  zc : Nat
  passLimit : Nat
  boards : List RawBoard
  deriving DecidableEq, Repr

/-- Tab entries. -/
def rawTabs : Nat → Reader (List RawTab)
  | 0 => fun l => some ([], l)
  | n + 1 => fun l => do
    let (tx, l) ← byte2 l
    let (ty, l) ← byte2 l
    let (w, l) ← byte2 l
    let (dir, l) ← byte1 l
    let (rest, l) ← rawTabs n l
    some ({ tx := tx, ty := ty, w := w, dir := dir } :: rest, l)

/-- Board entries, each followed by its tab entries. -/
def rawBoards : Nat → Reader (List RawBoard)
  | 0 => fun l => some ([], l)
  | n + 1 => fun l => do
    let (index, l) ← byte1 l
    let (product, l) ← byte2 l
    let (ox, l) ← byte2 l
    let (oy, l) ← byte2 l
    let (count, l) ← byte1 l
    let (tabs, l) ← rawTabs count l
    let (rest, l) ← rawBoards n l
    some ({ index := index, product := product, ox := ox, oy := oy, tabs := tabs } :: rest, l)

/-- The recipe layout. -/
def rawRecipe : Reader RawRecipe := fun l => do
  let (number, l) ← byte1 l
  let (pw, l) ← byte2 l
  let (ph, l) ← byte2 l
  let (t, l) ← byte2 l
  let (hc, l) ← byte2 l
  let (f, l) ← byte1 l
  let (o, l) ← byte2 l
  let (b, l) ← byte2 l
  let (zc, l) ← byte2 l
  let (passLimit, l) ← byte1 l
  let (count, l) ← byte1 l
  let (boards, l) ← rawBoards count l
  some ({ number := number, pw := pw, ph := ph, t := t, hc := hc, f := f, o := o, b := b, zc := zc,
          passLimit := passLimit, boards := boards }, l)

/-! ## ANNOUNCE PANEL -/

/-- The announce record as received (R27). -/
structure RawAnnounce where
  tag : Nat
  recipe : Option Nat
  repeatMark : Nat
  orientation : Nat
  pref : Nat
  xouts : Option (List Nat)
  panelId : Option (List Byte)
  deriving DecidableEq, Repr

/-- The announce record behind its presence byte. -/
def rawAnnounce (presence : Byte) (tag : Nat) : Reader RawAnnounce := fun l => do
  let (recipe, l) ← optional (presence.getLsbD 0) byte1 l
  let (mark, l) ← byte1 l
  let (orientation, l) ← byte1 l
  let (pref, l) ← byte1 l
  let (xouts, l) ← optional (presence.getLsbD 1) byteList l
  let (panelId, l) ← optional (presence.getLsbD 2) text l
  some ({ tag := tag, recipe := recipe, repeatMark := mark, orientation := orientation, pref := pref, xouts := xouts,
          panelId := panelId }, l)

/-- What a record with a presence byte reads as (R203, step 3). -/
inductive Presence (α : Type) where
  | badLength
  | badPresence
  | read (x : α)
  deriving Repr

/-- A record read behind its presence byte: undefined bits are refused before the length is compared. `mask` holds the bits the
layout defines. -/
def behindPresence {α : Type} (mask : Byte) (presence : Byte) (r : Reader α) (rest : List Byte) : Presence α :=
  if presence &&& ~~~mask ≠ 0#8 then .badPresence
  else
    match whole r rest with
    | some x => .read x
    | none => .badLength

/-- The announce record (12_the_message_link.md). -/
def parseAnnounce : List Byte → Presence RawAnnounce
  | t0 :: t1 :: presence :: rest =>
    behindPresence 0x07#8 presence (rawAnnounce presence (t0.toNat + 256 * t1.toNat)) rest
  | _ => .badLength

/-! ## ACCEPT MAGAZINE -/

/-- The magazine record as received (R161). -/
structure RawMagazine where
  bay : Nat
  tag : List Byte
  slots : Nat
  pitch : Nat
  zoneEnds : List Nat
  preloaded : Option (List Nat)
  deriving DecidableEq, Repr

/-- The magazine record behind its presence byte. -/
def rawMagazine (presence : Byte) (bay : Nat) : Reader RawMagazine := fun l => do
  let (tag, l) ← text l
  let (slots, l) ← byte1 l
  let (pitch, l) ← byte2 l
  let (zoneEnds, l) ← byteList l
  let (preloaded, l) ← optional (presence.getLsbD 0) byteList l
  some ({ bay := bay, tag := tag, slots := slots, pitch := pitch, zoneEnds := zoneEnds, preloaded := preloaded }, l)

/-- The magazine record (12_the_message_link.md). -/
def parseMagazine : List Byte → Presence RawMagazine
  | bay :: presence :: rest => behindPresence 0x01#8 presence (rawMagazine presence bay.toNat) rest
  | _ => .badLength

/-! ## The other request payloads -/

/-- A claim entry as received (SET CLAIM). -/
structure RawClaim where
  index : Nat
  enabled : Nat
  low : Nat
  high : Nat
  bay : Nat
  zone : Nat
  exactOnly : Nat
  deriving DecidableEq, Repr

/-- SET CLAIM. -/
def rawClaim : Reader RawClaim := fun l => do
  let (index, l) ← byte1 l
  let (enabled, l) ← byte1 l
  let (low, l) ← byte2 l
  let (high, l) ← byte2 l
  let (bay, l) ← byte1 l
  let (zone, l) ← byte1 l
  let (exactOnly, l) ← byte1 l
  some ({ index := index, enabled := enabled, low := low, high := high, bay := bay, zone := zone,
          exactOnly := exactOnly }, l)

/-- SET TOOL and RACK BIT: d, U, s, nreq, Lb (R83). -/
def rawBit : Reader BitDesc := fun l => do
  let (d, l) ← byte2 l
  let (u, l) ← byte2 l
  let (s, l) ← byte2 l
  let (nreq, l) ← byte1 l
  let (lb, l) ← byte2 l
  some ({ d := d, u := u, s := s, nreq := nreq, lb := lb }, l)

/-! ## Checks of fields -/

/-- A field's place for BAD FIELD: its number, and the board and tab position of its entry (R203). -/
structure FieldAt where
  field : Nat
  board : Option Nat := none
  tab : Option Nat := none
  deriving DecidableEq, Repr

/-- A field that lies in no entry. -/
def field (n : Nat) : FieldAt := { field := n }

/-- The BAD FIELD reply naming a field. -/
def badField (f : FieldAt) : ReplyBody := .badField f.field f.board f.tab

/-- The first field of a list of checks that fails. -/
def firstBad : List (Bool × FieldAt) → Option FieldAt
  | [] => none
  | (ok, f) :: rest => if ok then firstBad rest else some f

/-- A value within a range, both ends included. -/
def within (lo hi n : Nat) : Bool := lo ≤ n && n ≤ hi

/-- The place of the first entry of a list that fails a test, with the entries before it. Places in a list are counted from
0. (DEDUCED, log entry 27.) -/
def firstBadEntry (ok : List Nat → Nat → Bool) (before : List Nat) : List Nat → Option Nat
  | [] => none
  | x :: rest => if ok before x then firstBadEntry ok (before ++ [x]) rest else some before.length

/-- R83: the descriptor's fields in the order d, U, s, nreq, Lb. -/
def checkBit (d : BitDesc) : Option FieldAt :=
  firstBad
    [ (within 80 300 d.d, field 1), (within 200 1500 d.u, field 2), (within 50 300 d.s, field 3),
      (within 1 8 d.nreq, field 4), (within 100 60000 d.lb, field 5) ]

/-- R3: the header fields in the order of the header layout, from the panel width on. -/
def checkHeader (r : RawRecipe) : Option FieldAt :=
  firstBad
    [ (within 1000 35000 r.pw, field 2), (within 1000 35000 r.ph, field 3), (within 40 320 r.t, field 4),
      (within 40 2500 r.hc, field 5), (within 1 100 r.f, field 6), (r.o ≤ 50, field 7), (r.b ≤ 100, field 8),
      (within 100 1500 r.zc, field 9), (within 1 3 r.passLimit, field 10), (within 1 24 r.boards.length, field 11) ]

/-- R4, R5: a tab entry: width, channel direction, then the panel bound. -/
def checkTab (r : RawRecipe) (b : RawBoard) (bi ti : Nat) (t : RawTab) : Option FieldAt :=
  let at' := fun n => ({ field := n, board := some bi, tab := some ti } : FieldAt)
  firstBad
    [ (within 30 500 t.w, at' 19), (t.dir ≤ 1, at' 20), (b.ox + t.tx ≤ r.pw, at' 17), (b.oy + t.ty ≤ r.ph, at' 18) ]

/-- The tab entries of a board in ring order. -/
def checkTabs (r : RawRecipe) (b : RawBoard) (bi ti : Nat) : List RawTab → Option FieldAt
  | [] => none
  | t :: rest => (checkTab r b bi ti t).or (checkTabs r b bi (ti + 1) rest)

/-- R7, steps 4 and 5, of one board, `sum` being the tabs of the boards before it. A tab count that carries the running total
beyond its limit is refused before the board's tab entries are checked. (DESIGN CHOICE, log entry 41.) -/
def checkBoard (r : RawRecipe) (bi sum : Nat) (b : RawBoard) : Option FieldAt :=
  let at' := fun n => ({ field := n, board := some bi } : FieldAt)
  (firstBad
    [ (b.index == bi, at' 12), (within 1 4095 b.product, at' 13), (b.ox ≤ r.pw, at' 14), (b.oy ≤ r.ph, at' 15),
      (within 1 12 b.tabs.length, at' 16), (sum + b.tabs.length ≤ Config.recipeTabLimit, at' 16) ]).or
    (checkTabs r b bi 0 b.tabs)

/-- The board entries in list order. -/
def checkBoards (r : RawRecipe) (bi sum : Nat) : List RawBoard → Option FieldAt
  | [] => none
  | b :: rest => (checkBoard r bi sum b).or (checkBoards r (bi + 1) (sum + b.tabs.length) rest)

/-- R7, steps 2 to 5. -/
def checkRecipe (r : RawRecipe) : Option FieldAt :=
  (firstBad [(within 1 Config.recipePlaces r.number, field 1)]).or ((checkHeader r).or (checkBoards r 0 0 r.boards))

/-- A checked tab entry. -/
def RawTab.entry (t : RawTab) : TabEntry :=
  { tx := t.tx, ty := t.ty, w := t.w, dir := if t.dir = 0 then .x else .y }

/-- A checked board entry. -/
def RawBoard.entry (b : RawBoard) : BoardEntry :=
  { index := b.index, product := b.product, ox := b.ox, oy := b.oy, tabs := b.tabs.map RawTab.entry }

/-- The recipe record of a checked payload (R3, R4). -/
def RawRecipe.recipe (r : RawRecipe) : Recipe :=
  { number := r.number, pw := r.pw, ph := r.ph, t := r.t, hc := r.hc, f := r.f, o := r.o, b := r.b, zc := r.zc,
    passLimit := r.passLimit, boards := r.boards.map RawBoard.entry }

/-- R28, step 2: the fields of the announce record in its order. -/
def checkAnnounce (a : RawAnnounce) : Option FieldAt :=
  firstBad
    [ (a.tag != 0, field 1),
      ((a.recipe.map (within 1 Config.recipePlaces)).getD true, field 3),
      (a.repeatMark ≤ 1, field 4), (a.orientation ≤ 3, field 5), (a.pref ≤ 2, field 6),
      ((a.xouts.map fun l => decide (l.length ≤ 24)).getD true, field 7),
      ((a.panelId.map fun l => within 1 24 l.length).getD true, field 8) ]

/-- R28, step 5: an X-out index is below the recipe's board count and not listed before. -/
def checkXouts (boards : Nat) (xouts : List Nat) : Option FieldAt :=
  (firstBadEntry (fun before x => decide (x < boards) && !before.contains x) [] xouts).map fun i =>
    { field := 7, board := some i }

/-- The shuttle preference of its code (announce record). -/
def prefOf : Nat → Preference
  | 1 => .a
  | 2 => .b
  | _ => .either

/-- R161, step 3: the zone-end list: 1 to 4 entries, strictly ascending, the last one the slot count less one. (DEDUCED, log
entry 27.) -/
def checkZoneEnds (slots : Nat) (l : List Nat) : Option FieldAt :=
  if !within 1 4 l.length then some (field 6)
  else
    match firstBadEntry (fun before x => match before.getLast? with
      | some y => decide (y < x)
      | none => true) [] l with
    | some i => some { field := 6, board := some i }
    | none => if l.getLast? = some (slots - 1) then none else some { field := 6, board := some (l.length - 1) }

/-- R161, step 3: the preloaded list. -/
def checkPreloaded (slots : Nat) (l : List Nat) : Option FieldAt :=
  if 50 < l.length then some (field 7)
  else
    (firstBadEntry (fun before x => decide (x < slots) && !before.contains x) [] l).map fun i =>
      { field := 7, board := some i }

/-- R161, step 3. -/
def checkMagazine (m : RawMagazine) : Option FieldAt :=
  (firstBad [(within 1 16 m.tag.length, field 3), (within 10 50 m.slots, field 4), (within 200 1000 m.pitch, field 5)]).or
    ((checkZoneEnds m.slots m.zoneEnds).or (checkPreloaded m.slots (m.preloaded.getD [])))

/-- R146, step 2. -/
def checkClaim (c : RawClaim) : Option FieldAt :=
  firstBad
    [ (c.index ≤ 7, field 1), (c.enabled ≤ 1, field 2), (within 1 4095 c.low, field 3), (within 1 4095 c.high, field 4),
      (c.low ≤ c.high, field 4), (c.bay ≤ 3, field 5), (c.zone ≤ 3, field 6), (c.exactOnly ≤ 1, field 7) ]

/-- The code of a line use (CONFIGURE); `none` for a code outside the list. -/
def useOf : Nat → Option LineUse
  | 0 => some .unused
  | 1 => some .input
  | 2 => some .output
  | _ => none

/-- A code that R185 grants a line of a strapped direction: UNUSED or that direction. -/
def useOk (dir : LineDir) (code : Nat) : Bool :=
  match useOf code with
  | some .unused => true
  | some u => u == State.strapUse dir
  | none => false

/-- R185, step 3: the ten fields of CONFIGURE against the straps, in the order of R184's table. `l` holds ten values. -/
def checkOptions (st : Straps) (l : List Nat) : Option FieldAt :=
  let v := fun i => l.getD i 0
  let beyond := decide (st.bays = .four)
  firstBad
    [ (v 0 ≤ 1, field 1), (v 1 ≤ 1, field 2), (v 2 ≤ (if beyond then 1 else 0), field 3),
      (v 3 ≤ (if beyond then 1 else 0), field 4), (v 4 ≤ (if st.tray then 1 else 0), field 5),
      (v 5 ≤ (if st.changer then 1 else 0), field 6), (v 6 ≤ 1, field 7), (v 7 ≤ 1, field 8),
      (useOk st.upline (v 8), field 9), (useOk st.downline (v 9), field 10) ]

/-- The configured options of ten checked values (R184). -/
def optionsOf (l : List Nat) : Options :=
  let v := fun i => l.getD i 0
  { enables := #v[v 0 == 1, v 1 == 1, v 2 == 1, v 3 == 1], tray := v 4 == 1, changer := v 5 == 1, autoSwap := v 7 == 1,
    upUse := (useOf (v 8)).getD .unused, downUse := (useOf (v 9)).getD .unused }

/-- A list of numbers each within a range: the place of the first outside it (SET REPORTS, ACK FLAGS). -/
def checkNumbers (lo hi : Nat) (l : List Nat) : Option FieldAt :=
  (firstBadEntry (fun _ x => within lo hi x) [] l).map fun i => { field := 1, board := some i }

/-- A bay number below 4. -/
def bayOf (n : Nat) : Option Bay := if h : n < 4 then some ⟨n, h⟩ else none

end Sys2Proof.Machine
end

