-- ==== Sys2Proof/Machine/LinkOps.lean ====
section
/-! DEFINITION. The Link Controller's incoming side: the receiver (R202), the taking of a request and its reply (R203, R204),
and the reset-enable mark (R198). -/

namespace Sys2Proof.Machine

/-! ## The receiver (R202) -/

/-- R202: a link error: the count rises, saturating, and LINK ERROR is raised. -/
def linkError (s : State) : State :=
  raiseFlag .linkError (s.updLink fun l => { l with linkErrors := min Config.countCap (l.linkErrors + 1) })

/-- The receiver's state becomes a given one. -/
def setReceiver (r : Receiver) (s : State) : State := s.updLink fun l => { l with rx := r }

/-- R202: a frame whose last byte has arrived is appended to the receive queue or discarded. `covered` is what the check covers:
kind, tag, length and payload. -/
def settleFrame (kind tag : Byte) (payload covered : List Byte) (hi lo : Byte) (s : State) : State :=
  let s := setReceiver .hunting s
  if crc16 covered = hi ++ lo ∧ s.link.rxQueue.length < Config.receiveLimit then
    s.updLink fun l => { l with rxQueue := l.rxQueue ++ [{ kind := kind, tag := tag, payload := payload }] }
  else linkError s

/-- R202: one more byte of the frame being assembled; `got` holds the frame's bytes with that byte, the start byte left out.
The header is judged when its fourth byte has come. (DEDUCED, log entry 22.) -/
def assemble (got : List Byte) (s : State) : State :=
  match got with
  | kind :: tag :: l0 :: l1 :: rest =>
    let len := l0.toNat + 256 * l1.toNat
    if Config.payloadLimit < len ∨ tag = 0#8 then linkError (setReceiver .skipping s)
    else
      match rest.drop len with
      | hi :: lo :: _ => settleFrame kind tag (rest.take len) (got.take (4 + len)) hi lo s
      | _ => setReceiver (.assembling got) s
  | _ => setReceiver (.assembling got) s

/-- R202: one byte arrives. -/
def receiveByte (b : Byte) (s : State) : State :=
  match s.link.rx with
  | .hunting => if b = 0xC3#8 then setReceiver (.assembling []) s else s
  | .assembling got => assemble (got ++ [b]) s
  | .skipping => s

/-- Bytes arrive one after the other. -/
def receiveBytes (bytes : List Byte) (s : State) : State := bytes.foldl (fun s b => receiveByte b s) s

/-! ## Taking a request (R203) -/

/-- R203, R204: the next request may be taken: the reply to the previous one has been sent in full, and no accepted CELL RESET is
on its way. -/
def Link.canTake (l : Link) : Bool :=
  l.slot.isNone && l.reset == .none && match l.sending with
    | some (.reply _) => false
    | _ => true

/-- The kinds of the request table (12_the_message_link.md, Request kinds). -/
def requestKinds : List Byte :=
  [ 0x01#8, 0x02#8, 0x03#8, 0x04#8, 0x05#8, 0x10#8, 0x11#8, 0x12#8, 0x18#8, 0x19#8, 0x20#8, 0x21#8, 0x22#8, 0x23#8, 0x30#8,
    0x31#8, 0x32#8, 0x38#8, 0x39#8, 0x3A#8, 0x3B#8, 0x40#8, 0x41#8, 0x42#8, 0x43#8, 0x4E#8, 0x4F#8 ]

/-- The kind of the reply to a frame of a kind (R201). -/
def replyKind (kind : Byte) : Byte := if kind < 0x80#8 then kind + 0x80#8 else 0xFF#8

/-- The reply to a frame (R201, R203). -/
def replyTo (f : Frame) (b : ReplyBody) : Reply := { kind := replyKind f.kind, tag := f.tag, body := b }

/-- What a request's step gives: the state after the owner's work, and the reply's payload. -/
structure Handled where
  state : State
  body : ReplyBody

/-- A request that is refused changes nothing. -/
def refuse (r : Result) (s : State) : Handled := { state := s, body := .refused r }

/-- A request refused with BAD FIELD. -/
def refuseField (f : FieldAt) (s : State) : Handled := { state := s, body := badField f }

/-- A request answered OK. -/
def accept (b : OkBody) (s : State) : Handled := { state := s, body := .ok b }

/-- R198, R203: a frame is taken: it leaves the queue, and the reset-enable mark is cleared. -/
def takeFrame (rest : List Frame) (s : State) : State :=
  s.updLink fun l => { l with rxQueue := rest, resetEnable := false }

/-- R204: the reply enters the slot at the end of its request's step, after the step's reports. -/
def giveReply (r : Reply) (s : State) : State := s.updLink fun l => { l with slot := some r }

/-- R203: a request row is the taking of the frame at the head of the receive queue. It is applied when a frame may be taken
and the head is one that the row names; `work` is the checks and the owner's work for that frame. (DEDUCED, log entry 6.) -/
def request (names : Frame → Bool) (work : Frame → State → Handled) (s : State) : Host.Outcome State Fault Refusal :=
  match s.link.rxQueue with
  | [] => notApplied s
  | f :: rest =>
    if s.link.canTake && names f then
      let h := work f (takeFrame rest (beginStep s))
      .next (finishStep (giveReply (replyTo f h.body) h.state))
    else notApplied s

/-- A request is named by its kind. -/
def ofKind (k : Byte) (f : Frame) : Bool := f.kind == k

/-- R203, steps 2 to 4, of a request other than WAKE and GET STATUS: refused in PARKED, read whole, and handed to its owner. -/
def guarded {α : Type} (r : Reader α) (owner : α → State → Handled) (f : Frame) (s : State) : Handled :=
  if s.mode.mode = .parked then refuse .parked s
  else
    match whole r f.payload with
    | none => refuse .badLength s
    | some x => owner x s

/-- R203, steps 2 to 4, of a request whose record has a presence byte, which is field 2 of its layout. -/
def guardedPresence {α : Type} (parse : List Byte → Presence α) (owner : α → State → Handled) (f : Frame) (s : State) :
    Handled :=
  if s.mode.mode = .parked then refuse .parked s
  else
    match parse f.payload with
    | .badLength => refuse .badLength s
    | .badPresence => refuseField (field 2) s
    | .read x => owner x s

/-- R203, steps 3 and 4, of WAKE and GET STATUS, which are taken in PARKED. -/
def unguarded {α : Type} (r : Reader α) (owner : α → State → Handled) (f : Frame) (s : State) : Handled :=
  match whole r f.payload with
  | none => refuse .badLength s
  | some x => owner x s

/-! ## The end of a frame (R204) -/

/-- R204, R198: the last byte of the frame being sent has left; behind the reply of an accepted CELL RESET the reset is due.
(DEDUCED, log entry 13.) -/
def endFrame (l : Link) : Link :=
  { l with
    sending := none
    reset := match l.sending with
      | some (.reply _) => if l.reset = .replying then .due else l.reset
      | _ => l.reset }

end Sys2Proof.Machine
end

