-- ==== Sys2Proof/Machine/BayCmds.lean ====
section
/-! DEFINITION. The commands of the Bay Controller: ACCEPT_MAGAZINE, SWAP_BAY, GET_BAY, SLOT_SEATED, TRAY_ENTRY,
MAGAZINE_PRESENT, MAGAZINE_REMOVED and LATCH_COMPLETE. -/

namespace Sys2Proof.Machine

/-! ## ACCEPT MAGAZINE (R161, R162) -/

/-- R161, step 5: another bay that is ONLINE, DRAINING or RELEASED holds a magazine of the tag. -/
def tagTaken (s : State) (b : Bay) (tag : List Byte) : Bool :=
  allBays.any fun c => c != b && match (s.bayRec c).state with
    | .online | .draining | .released => (s.bayRec c).mag.any fun m => m.tag == tag
    | .empty | .present => false

/-- R162, step 2: the slot map of a new magazine. -/
def newSlots (count : Nat) (preloaded : List Nat) : List Slot :=
  (List.range count).map fun i => { state := if preloaded.contains i then .preloaded else .free, ref := .none }

/-- R162, steps 1 to 3: the bay's record with the magazine accepted. -/
def acceptInto (m : RawMagazine) (r : BayRec) : BayRec :=
  { r with
    state := .online, mag := some { tag := m.tag, slots := m.slots, pitch := m.pitch, zoneEnds := m.zoneEnds },
    slots := some (newSlots m.slots (m.preloaded.getD [])), latch := .none, awaited := none, stray := 0 }

/-- R162, step 6: what the reply shows of a zone. -/
def zoneLine (slots : List Slot) (z : Zone) : ZoneLine := { first := z.first, last := z.last, free := freeIn slots z }

/-- R162: an accepted magazine. -/
def acceptMagazine (b : Bay) (m : RawMagazine) (s : State) : State :=
  let s := bayReport b .accepted (s.updBayRec b (acceptInto m))
  autoSwapTest b (retryWait s)

/-- R161, R162. -/
def handleAccept (m : RawMagazine) (s : State) : Handled :=
  match bayOf m.bay with
  | none => refuseField (field 1) s
  | some b =>
    if !s.bayEnabled b then refuseField (field 1) s
    else
      match checkMagazine m with
      | some f => refuseField f s
      | none =>
        if (s.bayRec b).state ≠ .present then refuse .wrongState s
        else if tagTaken s b m.tag then refuse .inUse s
        else
          let s := acceptMagazine b m s
          let r := s.bayRec b
          accept (.magazine r.state (r.zones.map (zoneLine r.map))) s

/-- ACCEPT_MAGAZINE (R161, R162). -/
def execAcceptMagazine (s : State) : Host.Outcome State Fault Refusal :=
  request (ofKind 0x38#8) (guardedPresence parseMagazine handleAccept) s

/-! ## SWAP BAY and GET BAY (R173, R180) -/

/-- A bay that a request may name: within 0–3 and present (R159). -/
def namedBay (n : Nat) (s : State) : Option Bay := (bayOf n).filter fun b => s.bayFitted b

/-- R173. -/
def handleSwap (n : Nat) (s : State) : Handled :=
  match namedBay n s with
  | none => refuseField (field 1) s
  | some b =>
    match (s.bayRec b).state with
    | .empty | .present | .released => refuse .wrongState s
    | .draining => accept (.swapped .draining) s
    | .online =>
      let s := askSwap b .host s
      accept (.swapped (s.bayRec b).state) s

/-- SWAP_BAY (R173). -/
def execSwapBay (s : State) : Host.Outcome State Fault Refusal := request (ofKind 0x39#8) (guarded byte1 handleSwap) s

/-- R180: what the reply to GET BAY shows of a zone. -/
def zoneDetail (slots : List Slot) (z : Zone) : ZoneDetail :=
  { first := z.first, last := z.last, free := freeIn slots z, longest := longestIn slots z }

/-- R180: what the reply to GET BAY shows. -/
def bayReplyOf (b : Bay) (s : State) : BayReply :=
  let r := s.bayRec b
  { state := r.state, disabled := !s.bayEnabled b, swap := r.swap, latch := r.latch, stray := r.stray, mag := r.mag,
    zones := r.zones.map (zoneDetail r.map), awaited := r.awaited, runs := r.slots.map (runsFrom 0),
    preloaded := indicesOf Slot.isPreloaded r.map, blockedAlone := indicesOf Slot.isAlone r.map,
    trayAwaited := s.bay.trayAwaited }

/-- R180. -/
def handleGetBay (n : Nat) (s : State) : Handled :=
  match namedBay n s with
  | none => refuseField (field 1) s
  | some b => accept (.bay (bayReplyOf b s)) s

/-- GET_BAY (R180). -/
def execGetBay (s : State) : Host.Outcome State Fault Refusal := request (ofKind 0x3A#8) (guarded byte1 handleGetBay) s

/-! ## The slot and tray sensors (R168, R169, R172) -/

/-- R172: a stray event. (DEDUCED, log entry 23.) -/
def strayEvent (b : Bay) (slot : Nat) (s : State) : State :=
  let s := s.updBayRec b fun r => { r with stray := min Config.countCap (r.stray + 1) }
  if slotFree (s.bayRec b).map slot then
    let s := mapSlots b (fun m => m.set slot { state := .blocked, ref := .none }) s
    autoSwapTest b (bayReport b .slotBlocked s)
  else s

/-- The slot belongs to the run. -/
def Run.covers (r : Run) (slot : Nat) : Bool := r.first ≤ slot && slot < r.first + r.count

/-- R168, R172: the slot sensor of an accepted magazine sees a board come to rest. -/
def slotSeen (b : Bay) (slot : Nat) (s : State) : State :=
  match (s.bayRec b).awaited with
  | some run => if run.covers slot then confirmRun b run s else strayEvent b slot s
  | none => strayEvent b slot s

/-- R172: the bay states in which a slot-seated event is taken. -/
def BayState.accepted : BayState → Bool
  | .online | .draining | .released => true
  | .empty | .present => false

/-- SLOT_SEATED (R168, R172). -/
def execSlotSeated (b : Bay) (slot : Nat) (s : State) : Host.Outcome State Fault Refusal :=
  if (s.bayRec b).state.accepted = true ∧ s.bayFitted b = true then applied (slotSeen b slot) s else notApplied s

/-- TRAY_ENTRY (R169). -/
def execTrayEntry (s : State) : Host.Outcome State Fault Refusal :=
  if s.bay.trayAwaited then applied confirmTray s else notApplied s

/-! ## The magazine lines (R160, R176, R177) -/

/-- The level of a bay's magazine-present line (R160). -/
def setMagazineLine (b : Bay) (level : Bool) (s : State) : State := s.updBayRec b fun r => { r with line := level }

/-- R160: a magazine is pushed home. -/
def magazineArrives (b : Bay) (s : State) : State :=
  let s := setMagazineLine b true s
  if (s.bayRec b).state = .empty then bayReport b .magazineIn (s.updBayRec b fun r => { r with state := .present }) else s

/-- MAGAZINE_PRESENT (R160): the line's level is followed in every state. -/
def execMagazinePresent (b : Bay) (s : State) : Host.Outcome State Fault Refusal :=
  if s.bayFitted b then applied (magazineArrives b) s else notApplied s

/-- R176: an expected removal; a latch motion in flight is abandoned, so that a park motion may follow (R195). (DEDUCED, log
entry 33.) -/
def expectedRemoval (b : Bay) (s : State) : State :=
  let s := magazineReport b false s
  parkTest (bayReport b .removed (s.updBayRec b emptyBay))

/-- The board of a map's RESERVED run. -/
def reservedBoard (slots : List Slot) : Option BoardRef :=
  ((runsFrom 0 slots).find? fun e => e.state == .reserved).map fun e => { job := e.run.job, board := e.run.board }

/-- R177, step 4, R139: what happens to the board of the removed magazine's RESERVED run. -/
def settleRemoved (awaited : Bool) (ref : BoardRef) (s : State) : State :=
  if awaited then settleHead (loseBoard s)
  else
    let s := s.updBoard ref.job ref.board fun b => { b with dest := .none }
    routeBoard ref (s.updPick fun p => { p with motion := .none })

/-- R177: an unexpected removal. -/
def unexpectedRemoval (b : Bay) (s : State) : State :=
  let r := s.bayRec b
  let s := magazineReport b true (raiseFlag .bayLost s)
  let s := s.updBayRec b fun r => { emptyBay r with awaited := none }
  let s := bayReport b .removedUnexpected s
  match reservedBoard r.map with
  | some ref => settleRemoved r.awaited.isSome ref s
  | none => s

/-- R160: a magazine is drawn out. -/
def magazineLeaves (b : Bay) (s : State) : State :=
  let s := setMagazineLine b false s
  match (s.bayRec b).state with
  | .empty => s
  | .present => bayReport b .removed (s.updBayRec b fun r => { r with state := .empty })
  | .released => expectedRemoval b s
  | .online | .draining => unexpectedRemoval b s

/-- MAGAZINE_REMOVED (R160). -/
def execMagazineRemoved (b : Bay) (s : State) : Host.Outcome State Fault Refusal :=
  if s.bayFitted b then applied (magazineLeaves b) s else notApplied s

/-! ## The latch (R178) -/

/-- R178: the latch motion completes; a group come to rest may be sent its park motion (R195). -/
def latchOpens (b : Bay) (s : State) : State :=
  parkTest (bayReport b .latchOpen (s.updBayRec b fun r => { r with latch := .done }))

/-- LATCH_COMPLETE (R178). -/
def execLatchComplete (b : Bay) (req : ReqNo) (s : State) : Host.Outcome State Fault Refusal :=
  if (s.bayRec b).latch = .inFlight req then applied (latchOpens b) s else notApplied s

end Sys2Proof.Machine
end

