-- ==== Sys2Proof/Machine/CutCmds.lean ====
section
/-! DEFINITION. The events of the Cut Sequencer: PASS_COMPLETION and CUT_WATCH_EXPIRY. -/

namespace Sys2Proof.Machine

/-- PASS_COMPLETION (R71, R72): applied while the sequencer is PASS, to the pass whose number it carries. -/
def execPassCompletion (req : ReqNo) (load : LoadClass) (overrun : Bool) (s : State) : Host.Outcome State Fault Refusal :=
  match s.seq.pass with
  | some r =>
    if s.seq.state = .pass ∧ r.req = req then applied (completePass r load overrun) s else notApplied s
  | none => notApplied s

/-- R74: the cut watch expires. -/
def cutWatchExpires (s : State) : State := addStop .cutWatch (raiseFlag .cutWatch s)

/-- CUT_WATCH_EXPIRY (R74): the watch runs exactly while a pass is in flight. -/
def execCutWatchExpiry (s : State) : Host.Outcome State Fault Refusal :=
  if s.seq.pass.isSome then applied cutWatchExpires s else notApplied s

end Sys2Proof.Machine
end

