-- ==== Sys2Proof/Machine/JobCmds.lean ====
section
/-! DEFINITION. The commands of the Job List: ANNOUNCE_PANEL, WITHDRAW_PANEL, GET_JOB, GET_JOB_DIRECTORY and RELEASE_JOB. -/

namespace Sys2Proof.Machine

/-! ## ANNOUNCE PANEL -/

/-- R29: the recipe of an announcement, or why it is refused. -/
def resolveRecipe (named : Option Nat) (st : Store) : Except Result Recipe :=
  match named with
  | some n =>
    match st.find n with
    | some r => .ok r
    | none => .error .notFound
  | none =>
    if st.carried = 0 then .error .missingRecipe
    else
      match st.find st.carried with
      | some r => .ok r
      | none => .error .missingRecipe

/-- R25: a tab record at admission. -/
def newTab : TabRec := { state := .pending, used := 0, interrupted := false, clamped := false, hard := false }

/-- R22: a board record at admission. -/
def newBoard (xouts : List Nat) (b : BoardEntry) : BoardRec :=
  { index := b.index, state := .waiting, xout := xouts.contains b.index, dest := .none, ranged := false, damage := false,
    tabs := b.tabs.map fun _ => newTab }

/-- R30, step 2: the job record at admission. -/
def newJob (a : RawAnnounce) (r : Recipe) : Job :=
  { tag := a.tag, recipe := r.number, repeatMark := a.repeatMark == 1, orientation := a.orientation, pref := prefOf a.pref,
    xoutList := a.xouts, panelId := a.panelId, state := .announced, cause := .none, bound := none,
    boards := r.boards.map (newBoard (a.xouts.getD [])), summary := none }

/-- A listed job that is ENDED or WITHDRAWN. -/
def firstFinal (jobs : List Job) : Option Job := jobs.find? fun j => !j.live

/-- A job leaves the list, and the Shuttle Controller is told (R18, R52). -/
def dropJob (tag : Nat) (leave : LeaveListCause) (s : State) : State := unbindJob tag (removeJob tag leave s)

/-- R30, step 1: with the list full, the oldest final job is evicted. -/
def evictOne (s : State) : State :=
  if s.jobs.length < Config.jobLimit then s
  else
    match firstFinal s.jobs with
    | some j => dropJob j.tag .evicted s
    | none => s

/-- R46: the job is handed to the Shuttle Controller. -/
def handToShuttles (tag : Nat) (pref : Preference) (s : State) : State :=
  match s.shut.seated.find? fun sh => pref.allows sh with
  | some sh => bindJob sh tag (s.updShut fun c => { c with seated := c.seated.filter (· != sh) })
  | none => s

/-- R30: an accepted announcement. (DEDUCED, log entry 38.) -/
def admitJob (a : RawAnnounce) (r : Recipe) (s : State) : Handled :=
  let s := evictOne s
  let s := reportJob a.tag (s.updJobs fun js => js ++ [newJob a r])
  let listed := s.jobs.length
  let s := s.updStore fun st => { st with carried := if a.repeatMark = 1 then r.number else 0 }
  let s := s.updMode fun m => { m with locked := true }
  let s := handToShuttles a.tag (prefOf a.pref) s
  let j := s.job? a.tag
  accept (.announced a.tag r.number (s.position a.tag) ((j.map (·.state)).getD .announced) (j.bind (·.bound)) listed) s

/-- R28, R30. -/
def handleAnnounce (a : RawAnnounce) (s : State) : Handled :=
  match checkAnnounce a with
  | some f => refuseField f s
  | none =>
    if (s.job? a.tag).isSome then refuse .inUse s
    else
      match resolveRecipe a.recipe s.store with
      | .error e => refuse e s
      | .ok r =>
        match checkXouts r.boards.length (a.xouts.getD []) with
        | some f => refuseField f s
        | none =>
          if Config.jobLimit ≤ s.jobs.length ∧ (firstFinal s.jobs).isNone = true then refuse .full s
          else admitJob a r s

/-- ANNOUNCE_PANEL (R28, R30). -/
def execAnnouncePanel (s : State) : Host.Outcome State Fault Refusal :=
  request (ofKind 0x20#8) (guardedPresence parseAnnounce handleAnnounce) s

/-! ## WITHDRAW PANEL -/

/-- R33: the withdraw cause of a job becomes HOST. -/
def markHostWithdrawal (tag : Nat) (s : State) : State := s.updJob tag fun j => { j with cause := .host }

/-- R53: the shuttle of a job withdrawn at the window withdraws its request and becomes AT WINDOW. -/
def leaveAtWindow (sh : Shuttle) (s : State) : State :=
  s.updShut fun c =>
    let c := c.setWait sh false
    c.set sh { c.get sh with state := .atWindow }

/-- R78: the sequencer is told of the withdrawal of its current job. -/
def stopSequencing (tag : Nat) (s : State) : State :=
  s.updSeq fun q =>
    if q.job = tag ∧ (q.state = .ready ∨ q.state = .awaitHold ∨ q.state = .toolWait) then
      { q with state := .finishing, fixed := none }
    else q

/-- R33: an accepted withdrawal, by the job's state. -/
def withdrawJob (j : Job) (s : State) : State :=
  match j.state with
  | .announced => removeJob j.tag .withdrawnUnbound s
  | .seated | .waitingArea =>
    let s := abandonBoards j.tag (markHostWithdrawal j.tag s)
    let s := jobEvent j.tag .withdrawAccepted id s
    match j.bound with
    | some sh => leaveAtWindow sh s
    | none => s
  | .loading => markHostWithdrawal j.tag s
  | .cutting => abandonIfWithdrawing j.tag (stopSequencing j.tag (markHostWithdrawal j.tag s))
  | .ended | .withdrawn => s

/-- R33: the reply shows the job's state and cause after the step; a job that left the list, the state it had when it left.
(DEDUCED, log entry 28.) -/
def withdrawReply (j : Job) (s : State) : OkBody :=
  match s.job? j.tag with
  | some k => .withdrawn k.state k.cause
  | none => .withdrawn j.state j.cause

/-- R33. -/
def handleWithdraw (tag : Nat) (s : State) : Handled :=
  match s.job? tag with
  | none => refuse .notFound s
  | some j =>
    if !j.live then refuse .wrongState s
    else if j.cause ≠ .none then accept (.withdrawn j.state j.cause) s
    else
      let s := withdrawJob j s
      accept (withdrawReply j s) s

/-- WITHDRAW_PANEL (R33). -/
def execWithdrawPanel (s : State) : Host.Outcome State Fault Refusal :=
  request (ofKind 0x21#8) (guarded byte2 handleWithdraw) s

/-! ## RELEASE JOB -/

/-- R38. -/
def handleRelease (tag : Nat) (s : State) : Handled :=
  match s.job? tag with
  | none => refuse .notFound s
  | some j =>
    if j.live then refuse .wrongState s
    else
      let s := dropJob tag .released s
      accept (.jobsListed s.jobs.length) s

/-- RELEASE_JOB (R38). -/
def execReleaseJob (s : State) : Host.Outcome State Fault Refusal :=
  request (ofKind 0x23#8) (guarded byte2 handleRelease) s

/-! ## GET JOB -/

/-- R22: the product codes a reply shows for a job's boards, read from the job's recipe; a free value where the place of a
final job's recipe no longer holds such a board. (DESIGN CHOICE, log entry 1.) -/
def productsOf (j : Job) (s : State) : List Nat :=
  j.boards.map fun b =>
    match s.boardEntry? j.tag b.index with
    | some e => e.product
    | none => Config.freeProductCode s.freeUsed b.index

/-- Every board of the job has its entry in the stored recipe. -/
def productsKnown (j : Job) (s : State) : Bool := j.boards.all fun b => (s.boardEntry? j.tag b.index).isSome

/-- R39: a listed tag. -/
def handleGetJob (tag : Nat) (s : State) : Handled :=
  match s.job? tag with
  | none => refuse .notFound s
  | some j =>
    accept (.job (s.position tag) j (productsOf j s)) (if productsKnown j s then s else s.updFreeUsed (· + 1))

/-- The frame asks GET JOB for the directory: its job tag is 0 (R39). -/
def asksJobDirectory (f : Frame) : Bool := f.payload == [0#8, 0#8]

/-- GET_JOB (R39): every GET JOB frame but those that ask for the directory. -/
def execGetJob (s : State) : Host.Outcome State Fault Refusal :=
  request (fun f => ofKind 0x22#8 f && !asksJobDirectory f) (guarded byte2 handleGetJob) s

/-- R39: an entry of the job directory. -/
def jobLine (j : Job) : JobLine :=
  { tag := j.tag, recipe := j.recipe, state := j.state, cause := j.cause, bound := j.bound,
    finalBoards := (j.boards.filter fun b => b.state.final).length }

/-- R39: the directory. -/
def handleJobDirectory (s : State) : Handled := accept (.jobDirectory (s.jobs.map jobLine)) s

/-- GET_JOB_DIRECTORY (R39). -/
def execGetJobDirectory (s : State) : Host.Outcome State Fault Refusal :=
  request (fun f => ofKind 0x22#8 f && asksJobDirectory f) (guarded byte2 fun _ => handleJobDirectory) s

end Sys2Proof.Machine
end

