-- ==== Sys2Proof/Machine/ResetOps.lean ====
section
/-! DEFINITION. The two resets (R199): what every block sets at the release of power-on reset and when an accepted CELL RESET
takes effect. -/

namespace Sys2Proof.Machine

/-! ## The Mode Controller's part (R199) -/

/-- R199, steps 1 to 5 but for the interlock lines: the record as homing begins; the IN lines decide LINE (R189). -/
def restartRecord (m : ModeRec) : ModeRec :=
  { m with
    mode := .homing, pause := { host := false, line := lineHeld m }, stop := noStops, faulted := State.noGroups,
    homing := .full, referenced := State.noGroups, parkDone := State.noGroups, locked := false,
    refReq := PerGroup.const none, parkReq := PerGroup.const none, haltReq := PerGroup.const none }

/-- R190: an interlock line found active at a reset is taken as an activation. (DEDUCED, log entry 20.) -/
def readInterlocks (s : State) : State :=
  let s := if s.mode.estopActive then addStop .estop s else s
  if s.mode.doorActive then addStop .door s else s

/-- R199, steps 1 to 6: homing begins, or the cell is STOPPED before referencing is requested; the outputs are set. -/
def restartMode (s : State) : State :=
  let s := readInterlocks (s.updMode restartRecord)
  setOutputs (if s.mode.mode = .homing then requestReferencing s else s)

/-- The CELL STATE of a reset is the first report it queues (R208). -/
def beginReset (e : CellEvent) (s : State) : State := placeCellState (markCell e s)

/-! ## The release of power-on reset -/

/-- R208: the Link Controller's state at the release of power-on reset. -/
def powerOnLink (baud : Baud) : Link :=
  { rx := .hunting, rxQueue := [], slot := none, sending := none, txQueue := [], mask := State.resetMask,
    flags := State.noFlags, linkErrors := 0, reportsLost := false, resetEnable := false, reset := .none, baud := baud }

/-- R182 to R184: the mode record at the release of power-on reset, with the straps sampled and the lines read; the outputs
are not asserted. -/
def powerOnMode (p : Pins) : ModeRec :=
  { mode := .homing, pause := { host := false, line := false }, stop := noStops, faulted := State.noGroups,
    homing := .full, referenced := State.noGroups, parkDone := State.noGroups, straps := p.straps,
    options := State.strapOptions p.straps, locked := false, tag := none,
    upLevel := match p.straps.upline with
      | .input => p.upline
      | .output => false
    downLevel := match p.straps.downline with
      | .input => p.downline
      | .output => false
    estopActive := p.estop, doorActive := p.door, refReq := PerGroup.const none, parkReq := PerGroup.const none,
    haltReq := PerGroup.const none }

/-- R158, R159: the bay records at the release of power-on reset; an absent bay has no line and stays EMPTY. (DEDUCED, log
entry 35.) -/
def powerOnBays (p : Pins) : Vector BayRec 4 :=
  match p.straps.bays with
  | .four => p.magazines.map State.resetBay
  | .two => #v[State.resetBay p.magazines[0], State.resetBay p.magazines[1], State.resetBay false, State.resetBay false]

/-- Every block's record at the release of power-on reset. The commands that wait, and the count of free values used, are not
the controller's and are kept. -/
def powerOnState (p : Pins) (s : State) : State :=
  { link := powerOnLink p.straps.baud
    mode := powerOnMode p
    store := { recipes := [], free := Config.poolSize, carried := 0 }
    jobs := []
    shut := State.resetShuttles p.panelA p.panelB
    seq := State.resetSeq
    tool := State.resetTool
    pick := State.resetPick
    route := State.resetRoute
    bay := { bays := powerOnBays p, trayAwaited := false }
    drive := PerGroup.const 0
    out := emptyOutput
    freeUsed := s.freeUsed
    pending := s.pending }

/-- R199: the release of power-on reset. -/
def powerOn (p : Pins) (s : State) : State := restartMode (beginReset .powerOn (powerOnState p s))

/-! ## CELL RESET (R199) -/

/-- R208: the Link Controller's state when a CELL RESET takes effect; the bit rate is kept. -/
def resetLink (l : Link) : Link := powerOnLink l.baud

/-- R125: the Tool Monitor at CELL RESET. -/
def resetToolState (s : State) : State :=
  if s.tool.state = .changing then toolReport .reset (s.updTool fun t => clearBit { t with op := none })
  else s.updTool fun t => { t with op := none }

/-- R143: the head carries a board under vacuum, which stays there until PICK GANTRY's referencing completes. (DEDUCED, log
entry 21.) -/
def PickRec.carriesOn (p : PickRec) : Bool :=
  p.resetCarry || (p.demand && (p.head == .transfer || p.head == .placing))

/-- R143: the pick record at CELL RESET. (DEDUCED, log entry 37.) -/
def resetPickRec (p : PickRec) : PickRec :=
  { State.resetPick with demand := p.carriesOn, resetCarry := p.carriesOn }

/-- R145: the routing record at CELL RESET. -/
def resetRouteRec (r : RouteRec) : RouteRec := { r with wait := none, trayInProgress := false }

/-- R179: a present bay's record at CELL RESET. -/
def resetBayRec (r : BayRec) : BayRec :=
  match r.state with
  | .empty | .present => { r with state := if r.line then .present else .empty, awaited := none }
  | .online | .draining =>
    { r with state := .online, slots := r.slots.map fun m => m.map resetSlot, swap := .none, awaited := none }
  | .released => { holdLatch r with awaited := none }

/-- R179, R181: one bay at CELL RESET; a RESET report is queued if its state or slot map changed. -/
def resetOneBay (s : State) (b : Bay) : State :=
  if s.bayFitted b then
    let before := s.bayRec b
    let s := s.updBayRec b resetBayRec
    if (s.bayRec b).state = before.state ∧ (s.bayRec b).slots = before.slots then s else bayReport b .reset s
  else s

/-- R179: the bays and the tray mark at CELL RESET, then the auto-swap test of each bay, from bay 0 to
bay 3 (DESIGN CHOICE, log entry 40: no rule orders the bays). -/
def resetBays (s : State) : State :=
  let s := allBays.foldl resetOneBay (s.updBay fun c => { c with trayAwaited := false })
  allBays.foldl (fun s b => autoSwapTest b s) s

/-- R199: the CELL RESET takes effect: the link (R208), the stores and lists (R2, R42), the shuttles (R56), the sequencer
(R80), the bit (R125), the head (R143), the routing (R145), the mode (R199) and the bays (R179). (DEDUCED, log entry 19.) -/
def cellReset (s : State) : State :=
  let s := beginReset .cellReset { s with link := resetLink s.link, out := emptyOutput }
  let s := { s with
    store := { s.store with carried := 0 }
    jobs := []
    shut := State.resetShuttles s.shut.a.panelLine s.shut.b.panelLine
    seq := State.resetSeq }
  let s := resetToolState s
  let s := { s with pick := resetPickRec s.pick, route := resetRouteRec s.route }
  resetBays (restartMode s)

end Sys2Proof.Machine
end

