-- ==== Sys2Proof/Machine/LinkCmds.lean ====
section
/-! DEFINITION. The commands of the message link and of the resets: POWER_ON_RESET, FRAME_RECEIVED, FRAME_GAP_TIMEOUT,
SKIP_QUIET_GAP, FRAME_SENT, UNKNOWN_KIND, GET_STATUS, SET_REPORTS, ACK_FLAGS, RESET_ENABLE, CELL_RESET and
CELL_RESET_TAKES_EFFECT. -/

namespace Sys2Proof.Machine

/-- POWER_ON_RESET (R199). -/
def execPowerOnReset (pins : Pins) (s : State) : Host.Outcome State Fault Refusal := applied (powerOn pins) s

/-- FRAME_RECEIVED (R202). -/
def execFrameReceived (bytes : List Byte) (s : State) : Host.Outcome State Fault Refusal := applied (receiveBytes bytes) s

/-- FRAME_GAP_TIMEOUT (R202): a gap inside a frame abandons it. -/
def execFrameGapTimeout (s : State) : Host.Outcome State Fault Refusal :=
  match s.link.rx with
  | .assembling _ => applied (fun s => linkError (setReceiver .hunting s)) s
  | _ => notApplied s

/-- SKIP_QUIET_GAP (R202). -/
def execSkipQuietGap (s : State) : Host.Outcome State Fault Refusal :=
  match s.link.rx with
  | .skipping => applied (setReceiver .hunting) s
  | _ => notApplied s

/-- FRAME_SENT (R204): the frame being sent ends; the transmitter's choice is made at the end of the step. -/
def execFrameSent (s : State) : Host.Outcome State Fault Refusal :=
  match s.link.sending with
  | some _ => applied (fun s => s.updLink endFrame) s
  | none => notApplied s

/-- UNKNOWN_KIND (R203, step 1). -/
def execUnknownKind (s : State) : Host.Outcome State Fault Refusal :=
  request (fun f => !requestKinds.contains f.kind) (fun _ s => refuse .unknownKind s) s

/-- R207: what the reply to GET STATUS shows. -/
def statusOf (s : State) : StatusReply :=
  { mask := s.link.mask, flags := s.link.flags, linkErrors := s.link.linkErrors, reportsLost := s.link.reportsLost,
    reports := s.link.txQueue.length, frames := s.link.rxQueue.length, mode := s.mode, trayPolicy := s.route.trayPolicy,
    shut := s.shut, seq := s.seq,
    orderTabs := match s.seq.board with
      | some i => s.seq.order.filterMap fun ring => (s.tab? s.seq.job i ring).map (·.state)
      | none => []
    holdStates := s.seq.holdList.filterMap fun i => s.boardState s.seq.job i
    pick := s.pick
    queueStates := s.pick.queue.filterMap fun r => s.boardState r.job r.board
    carriedDest := carriedDest s }

/-- R207: GET STATUS shows the reports-lost mark as it stood and clears it. -/
def handleGetStatus (s : State) : Handled :=
  { state := s.updLink fun l => { l with reportsLost := false }, body := .ok (.status (statusOf s)) }

/-- GET_STATUS (R207). -/
def execGetStatus (s : State) : Host.Outcome State Fault Refusal :=
  request (ofKind 0x01#8) (unguarded noFields fun _ => handleGetStatus) s

/-- R205: the mask becomes exactly the classes listed, and queued reports of the others are removed. -/
def handleSetReports (l : List Nat) (s : State) : Handled :=
  match checkNumbers 1 7 l with
  | some f => refuseField f s
  | none =>
    let m := Mask.ofTest fun c => l.contains c.number
    accept (.mask m)
      (s.updLink fun k => { k with mask := m, txQueue := k.txQueue.filter fun r => m.get r.cls })

/-- SET_REPORTS (R205). -/
def execSetReports (s : State) : Host.Outcome State Fault Refusal :=
  request (ofKind 0x04#8) (guarded byteList handleSetReports) s

/-- R206: each flag listed is cleared. -/
def handleAckFlags (l : List Nat) (s : State) : Handled :=
  match checkNumbers 1 12 l with
  | some f => refuseField f s
  | none =>
    let f := FlagSet.ofTest fun x => s.link.flags.get x && !l.contains x.number
    accept (.flags f) (s.updLink fun k => { k with flags := f })

/-- ACK_FLAGS (R206). -/
def execAckFlags (s : State) : Host.Outcome State Fault Refusal :=
  request (ofKind 0x05#8) (guarded byteList handleAckFlags) s

/-- RESET_ENABLE (R198). -/
def execResetEnable (s : State) : Host.Outcome State Fault Refusal :=
  request (ofKind 0x4E#8)
    (guarded noFields fun _ s => accept .empty (s.updLink fun l => { l with resetEnable := true })) s

/-- R198: CELL RESET is accepted when the mark stood set as it was taken. -/
def handleCellReset (mark : Bool) (s : State) : Handled :=
  if mark then accept .empty (s.updLink fun l => { l with reset := .replying }) else refuse .sequence s

/-- CELL_RESET (R198). -/
def execCellReset (s : State) : Host.Outcome State Fault Refusal :=
  request (ofKind 0x4F#8) (guarded noFields fun _ => handleCellReset s.link.resetEnable) s

/-- CELL_RESET_TAKES_EFFECT (R199). -/
def execCellResetTakesEffect (s : State) : Host.Outcome State Fault Refusal :=
  if s.link.reset = .due then applied cellReset s else notApplied s

end Sys2Proof.Machine
end

