-- ==== Sys2Proof/Machine/ModeCmds.lean ====
section
/-! DEFINITION. The commands of the Mode Controller: CONFIGURE, SET_CELL_TAG, PAUSE, RESUME, PARK, WAKE, the interlock and
line-hold events, DRIVE_FAULT_EVENT, REFERENCING_COMPLETE and PARK_COMPLETE. -/

namespace Sys2Proof.Machine

/-! ## CONFIGURE (R185, R186) -/

/-- R189: the LINE pause cause is set or removed as the IN lines stand. -/
def readLines (s : State) : State := setPause { s.mode.pause with line := lineHeld s.mode } s

/-- R186: an accepted CONFIGURE. R174 and R186 give no order over the bays; the auto-swap test goes over them in ascending
order. (DESIGN CHOICE, log entry 40.) -/
def configure (o : Options) (policy : Bool) (s : State) : State :=
  let s := s.updMode fun m => { m with options := o }
  let s := s.updRoute fun r => { r with trayPolicy := policy }
  let s := setOutputs (readLines s)
  let s := allBays.foldl (fun s b => autoSwapTest b s) s
  markCell .configure (tryChange .configure s)

/-- R185, R186. `l` holds the ten values. -/
def handleConfigure (l : List Nat) (s : State) : Handled :=
  if s.mode.locked then refuse .locked s
  else
    match checkOptions s.mode.straps l with
    | some f => refuseField f s
    | none =>
      let s := configure (optionsOf l) (l.getD 6 0 == 1) s
      accept (.options s.mode.options s.route.trayPolicy) s

/-- CONFIGURE (R185, R186). -/
def execConfigure (s : State) : Host.Outcome State Fault Refusal :=
  request (ofKind 0x02#8) (guarded (bytes1 10) handleConfigure) s

/-! ## SET CELL TAG (R188) -/

/-- R188. -/
def handleSetCellTag (tag : List Byte) (s : State) : Handled :=
  if s.mode.tag.isSome then refuse .locked s
  else if !within 1 16 tag.length then refuseField (field 1) s
  else accept (.cellTag tag) (markCell .tagSet (s.updMode fun m => { m with tag := some tag }))

/-- SET_CELL_TAG (R188). -/
def execSetCellTag (s : State) : Host.Outcome State Fault Refusal :=
  request (ofKind 0x03#8) (guarded text handleSetCellTag) s

/-! ## PAUSE and RESUME (R193, R194) -/

/-- The reply of PAUSE and RESUME: the mode and both cause sets after the step (R193, R194). -/
def acceptCauses (s : State) : Handled := accept (.causes s.mode.mode s.mode.pause s.mode.stop) s

/-- R194. -/
def handlePause (s : State) : Handled := acceptCauses (setPause { s.mode.pause with host := true } s)

/-- PAUSE (R194). -/
def execPause (s : State) : Host.Outcome State Fault Refusal :=
  request (ofKind 0x40#8) (guarded noFields fun _ => handlePause) s

/-- R193: from STOPPED with both interlock lines clear: both causes go, and homing begins with the kind that stands. -/
def endStop (s : State) : State :=
  startHoming s.mode.homing (markCell .cause (s.updMode fun m =>
    { m with stop := noStops, faulted := State.noGroups, pause := { m.pause with host := false } }))

/-- R193. -/
def handleResume (s : State) : Handled :=
  if s.mode.mode = .stopped then
    if s.mode.estopActive || s.mode.doorActive then refuse .wrongState s else acceptCauses (endStop s)
  else acceptCauses (setPause { s.mode.pause with host := false } s)

/-- RESUME (R193). -/
def execResume (s : State) : Host.Outcome State Fault Refusal :=
  request (ofKind 0x41#8) (guarded noFields fun _ => handleResume) s

/-! ## PARK and WAKE (R195, R196) -/

/-- R195: an accepted PARK. -/
def startPark (s : State) : State :=
  parkTest (setMode .parking (s.updMode fun m => { m with parkDone := State.noGroups, parkReq := PerGroup.const none }))

/-- R195. -/
def handlePark (s : State) : Handled :=
  if s.mode.mode = .run ∨ s.mode.mode = .paused then
    if s.shut.holder.isSome || s.pick.head != .idle then refuse .busy s else accept .empty (startPark s)
  else refuse .wrongState s

/-- PARK (R195). -/
def execPark (s : State) : Host.Outcome State Fault Refusal :=
  request (ofKind 0x42#8) (guarded noFields fun _ => handlePark) s

/-- R196. -/
def handleWake (s : State) : Handled :=
  if s.mode.mode = .parked then accept .empty (startHoming .inPlace s) else refuse .wrongState s

/-- WAKE (R196). -/
def execWake (s : State) : Host.Outcome State Fault Refusal :=
  request (ofKind 0x43#8) (unguarded noFields fun _ => handleWake) s

/-! ## The interlock lines (R190) -/

/-- INTERLOCK_ACTIVATION (R190). -/
def execInterlockActivation (line : Interlock) (s : State) : Host.Outcome State Fault Refusal :=
  applied (fun s => addStop (interlockCause line) (s.updMode (setInterlock line true))) s

/-- INTERLOCK_CLEARING (R190): the level is recorded, the cause stays. (DEDUCED, log entry 16.) -/
def execInterlockClearing (line : Interlock) (s : State) : Host.Outcome State Fault Refusal :=
  applied (fun s => markCell .interlockClear (s.updMode (setInterlock line false))) s

/-! ## The line-hold lines (R189, R197) -/

/-- R183: the strapped direction of a line. -/
def lineDir (line : HoldLine) (m : ModeRec) : LineDir :=
  match line with
  | .upline => m.straps.upline
  | .downline => m.straps.downline

/-- R184: the use of a line. -/
def lineUse (line : HoldLine) (m : ModeRec) : LineUse :=
  match line with
  | .upline => m.options.upUse
  | .downline => m.options.downUse

/-- R182: the level of a line. -/
def setLine (line : HoldLine) (level : Bool) (m : ModeRec) : ModeRec :=
  match line with
  | .upline => { m with upLevel := level }
  | .downline => { m with downLevel := level }

/-- R189, R197: the level of a line strapped IN changes; while its use is IN, LINE and the outputs follow. (DEDUCED, log
entry 29.) -/
def lineChanges (line : HoldLine) (level : Bool) (s : State) : State :=
  let s := s.updMode (setLine line level)
  if lineUse line s.mode = .input then setOutputs (readLines s) else s

/-- LINE_HOLD_ASSERTION (R189): a line strapped OUT gives no event. -/
def execLineHoldAssertion (line : HoldLine) (s : State) : Host.Outcome State Fault Refusal :=
  if lineDir line s.mode = .input then applied (lineChanges line true) s else notApplied s

/-- LINE_HOLD_DEASSERTION (R189). -/
def execLineHoldDeassertion (line : HoldLine) (s : State) : Host.Outcome State Fault Refusal :=
  if lineDir line s.mode = .input then applied (lineChanges line false) s else notApplied s

/-! ## Drive faults (R1, R192) -/

/-- The latch motion of the number is in flight. -/
def Latch.carries (l : Latch) (n : ReqNo) : Bool :=
  match l with
  | .inFlight r => r == n
  | _ => false

/-- The number is that of a working motion in flight on the group, the tool change left out (R1). -/
def State.motionInFlight (s : State) (n : ReqNo) : Group → Bool
  | .spindle => match s.seq.pass with
    | some r => r.req == n
    | none => false
  | .pick => match s.pick.motion with
    | .inFlight _ r => r == n
    | _ => false
  | .shuttle => s.shut.a.moveReq == some n || s.shut.b.moveReq == some n
  | .bay => s.bay.bays.toList.any fun r => r.latch.carries n

/-- The number is that of a request now in flight on the group, the tool change left out (R1). -/
def State.requestInFlight (s : State) (g : Group) (n : ReqNo) : Bool :=
  s.motionInFlight n g || s.mode.refReq.get g == some n || s.mode.parkReq.get g == some n || s.mode.haltReq.get g == some n

/-- The fault event is for the tool change now MOVING (R123). (DEDUCED, log entry 25.) -/
def State.faultsChange (s : State) (g : Group) (req : Option ReqNo) : Bool :=
  match g, req with
  | .bay, some n => s.movingChange n
  | _, _ => false

/-- R1: a fault event about the halt in flight on a group ends it. (DEDUCED, log entry 26.) -/
def endHalt (g : Group) (req : Option ReqNo) (m : ModeRec) : ModeRec :=
  if req.isSome ∧ m.haltReq.get g = req then { m with haltReq := m.haltReq.set g none } else m

/-- R192: a fault event of a group. -/
def groupFaults (g : Group) (req : Option ReqNo) (s : State) : State :=
  let s := s.updMode fun m => endHalt g req { m with faulted := m.faulted.set g true }
  addStop .driveFault (raiseFlag .driveFault s)

/-- DRIVE_FAULT_EVENT (R192): for the tool change it is the changer fault of R123; with a number that is in flight nowhere on
its group it is not applied (R1). (DEDUCED, log entry 26.) -/
def execDriveFaultEvent (g : Group) (req : Option ReqNo) (s : State) : Host.Outcome State Fault Refusal :=
  if s.faultsChange g req then applied (fun s => parkTest (failChanger .fault s)) s
  else if (req.map (s.requestInFlight g)).getD true then applied (groupFaults g req) s
  else notApplied s

/-! ## Homing and park (R191, R195) -/

/-- R191: a group is referenced; the last group ends homing. -/
def groupReferenced (g : Group) (occupied : List Nat) (s : State) : State :=
  let s := s.updMode fun m => { m with refReq := m.refReq.set g none, referenced := m.referenced.set g true }
  let s := if g = .pick then releaseCarry s else s
  if allGroups s.mode.referenced then endHoming occupied s else s

/-- REFERENCING_COMPLETE (R191). -/
def execReferencingComplete (g : Group) (req : ReqNo) (occupied : List Nat) (s : State) :
    Host.Outcome State Fault Refusal :=
  if s.mode.mode = .homing ∧ s.mode.refReq.get g = some req then applied (groupReferenced g occupied) s else notApplied s

/-- R195: a group is parked; the last group makes the mode PARKED. -/
def groupParked (g : Group) (s : State) : State :=
  let s := s.updMode fun m => { m with parkReq := m.parkReq.set g none, parkDone := m.parkDone.set g true }
  if allGroups s.mode.parkDone then setMode .parked s else s

/-- PARK_COMPLETE (R195). -/
def execParkComplete (g : Group) (req : ReqNo) (s : State) : Host.Outcome State Fault Refusal :=
  if s.mode.mode = .parking ∧ s.mode.parkReq.get g = some req then applied (groupParked g) s else notApplied s

end Sys2Proof.Machine
end

