-- ==== Sys2Proof/Machine/PickCmds.lean ====
section
/-! DEFINITION. The events of the Pick Controller: VACUUM_MADE, VACUUM_LOST, VACUUM_WATCH_EXPIRY, the completions of the five
motion kinds and PLACE_WATCH_EXPIRY. -/

namespace Sys2Proof.Machine

/-! ## Vacuum (R130, R131, R133, R138) -/

/-- R130: vacuum is made on the served board: the hold is granted. -/
def grantHold (s : State) : State :=
  let s := s.updPick fun p => { p with vacWatch := false, head := .holding }
  let s := match s.pick.served with
    | some r => boardEvent r.job r.board .vacuumMade s
    | none => s
  chooseIfAwaiting s

/-- VACUUM_MADE (R130). -/
def execVacuumMade (s : State) : Host.Outcome State Fault Refusal :=
  if s.pick.head = .approach ∧ s.pick.demand = true then applied grantHold s else notApplied s

/-- R133, R138: vacuum is lost, by the head's state; with no board named by the record nothing is lost. -/
def loseVacuum (s : State) : State :=
  match s.pick.head, s.pick.served, s.pick.carried with
  | .holding, some r, _ =>
    if s.pick.heldPass then s.updPick fun p => { p with holdLost := true } else loseHold r s
  | .transfer, _, some r => dropCarried r s
  | .placing, _, some r => dropCarried r s
  | _, _, _ => s

/-- R133, R138: the head states in which a vacuum loss is taken. -/
def HeadState.canLose : HeadState → Bool
  | .holding | .transfer | .placing => true
  | .idle | .approach | .returning => false

/-- VACUUM_LOST (R133, R138). -/
def execVacuumLost (s : State) : Host.Outcome State Fault Refusal :=
  if s.pick.head.canLose = true ∧ s.pick.demand = true then applied loseVacuum s else notApplied s

/-- R131: the vacuum watch expires: the hold is tried once more, or given up. -/
def vacuumWatchExpires (s : State) : State :=
  if s.pick.retry then
    match s.pick.served with
    | some r => giveUpHold r s
    | none => s.updPick fun p => { p with vacWatch := false }
  else startMotion .approach (s.updPick fun p => { p with demand := false, retry := true, vacWatch := false })

/-- VACUUM_WATCH_EXPIRY (R131). -/
def execVacuumWatchExpiry (s : State) : Host.Outcome State Fault Refusal :=
  if s.pick.vacWatch = true ∧ s.pick.head = .approach then applied vacuumWatchExpires s else notApplied s

/-! ## The ends of motions (R129, R130, R136, R140) -/

/-- R130: the head is on the served board. -/
def approachEnds (s : State) : State := s.updPick fun p => { p with motion := .none, demand := true, vacWatch := true }

/-- APPROACH_COMPLETE (R130). -/
def execApproachComplete (req : ReqNo) (s : State) : Host.Outcome State Fault Refusal :=
  if s.motionIs .approach req then applied approachEnds s else notApplied s

/-- R136: the head is over the destination. -/
def transferEnds (s : State) : State := startMotion .lower (s.updPick fun p => { p with motion := .none, head := .placing })

/-- TRANSFER_COMPLETE (R136). -/
def execTransferComplete (req : ReqNo) (s : State) : Host.Outcome State Fault Refusal :=
  if s.motionIs .transfer req then applied transferEnds s else notApplied s

/-- PARK_WAIT_COMPLETE (R135): the head stays TRANSFER, at the park point with the board. -/
def execParkWaitComplete (req : ReqNo) (s : State) : Host.Outcome State Fault Refusal :=
  if s.motionIs .parkWait req then applied (fun s => s.updPick fun p => { p with motion := .none }) s else notApplied s

/-- R167: the Bay Controller is told which placement to expect. -/
def expectPlacement (dest : Destination) (s : State) : State :=
  match dest with
  | .run b first count => s.updBayRec b fun r => { r with awaited := some { first := first, count := count } }
  | .tray => s.updBay fun c => { c with trayAwaited := true }
  | .none => s

/-- R136: the completion of the LOWER motion releases the board. -/
def releaseBoard (s : State) : State :=
  let dest := carriedDest s
  let ref := s.pick.carried
  let s := s.updPick fun p => { p with motion := .none, demand := false }
  let s := match ref with
    | some r => boardEvent r.job r.board .released s
    | none => s
  expectPlacement dest (s.updPick fun p => { p with awaited := dest, placeWatch := true })

/-- LOWER_COMPLETE (R136). -/
def execLowerComplete (req : ReqNo) (s : State) : Host.Outcome State Fault Refusal :=
  if s.motionIs .lower req then applied releaseBoard s else notApplied s

/-- R140: the head is IDLE at the park point, and the serving test is made. -/
def returnEnds (s : State) : State :=
  serveTest (s.updPick fun p =>
    { p with
      head := .idle, motion := .none, demand := false, retry := false, heldPass := false, holdLost := false,
      served := none, carried := none })

/-- RETURN_COMPLETE (R140). -/
def execReturnComplete (req : ReqNo) (s : State) : Host.Outcome State Fault Refusal :=
  if s.motionIs .ret req then applied returnEnds s else notApplied s

/-- PLACE_WATCH_EXPIRY (R137). -/
def execPlaceWatchExpiry (s : State) : Host.Outcome State Fault Refusal :=
  if s.pick.placeWatch then applied losePlacement s else notApplied s

end Sys2Proof.Machine
end

