-- ==== Sys2Proof/Machine/RecipeCmds.lean ====
section
/-! DEFINITION. The commands of the Recipe Store: LOAD_RECIPE, DROP_RECIPE, GET_RECIPE and GET_RECIPE_DIRECTORY. -/

namespace Sys2Proof.Machine

/-! ## The tab pool (R6) -/

/-- The pool entries a recipe holds: one for each tab (R6). -/
def Recipe.tabs (r : Recipe) : Nat := total (r.boards.map fun b => b.tabs.length)

/-- The pool entries the recipe stored under a number holds, 0 for an empty place. -/
def Store.held (st : Store) (n : Nat) : Nat := ((st.find n).map Recipe.tabs).getD 0

/-- R6: the room available to a LOAD RECIPE. -/
def Store.room (st : Store) (n : Nat) : Nat := st.free + st.held n

/-- A recipe placed in a list ordered by number, in place of the one with its number. -/
def insertRecipe (r : Recipe) : List Recipe → List Recipe
  | [] => [r]
  | x :: rest =>
    if r.number < x.number then r :: x :: rest
    else if r.number = x.number then r :: rest
    else x :: insertRecipe r rest

/-- R8: the recipe is stored, the free count rising by the old recipe's entries and falling by the new one's. -/
def Store.put (r : Recipe) (st : Store) : Store :=
  { st with recipes := insertRecipe r st.recipes, free := st.room r.number - r.tabs }

/-- R10: the place becomes empty and its entries are returned. -/
def Store.drop (n : Nat) (st : Store) : Store :=
  { st with recipes := st.recipes.filter fun r => r.number != n, free := st.free + st.held n }

/-! ## The free count in replies (R6) -/

/-- R6: a reply to one of the three recipe requests with the free count in it. -/
def ReplyBody.withFree (free : Nat) : ReplyBody → ReplyBody
  | .refused r => .refusedFree r free
  | .badField n board tab => .badFieldFree n board tab free
  | b => b

/-- R203, steps 2 to 4, and R6: a recipe request is refused in PARKED, read whole and handed to the Recipe Store; whatever its
result, its reply carries the free count. (DESIGN CHOICE for the refusals of R203, log entry 42.) -/
def recipeGuarded {α : Type} (r : Reader α) (owner : α → State → Handled) (f : Frame) (s : State) : Handled :=
  let h := guarded r owner f s
  { h with body := h.body.withFree h.state.store.free }

/-! ## LOAD RECIPE -/

/-- R9: a live job refers to the recipe stored under the number. -/
def State.recipeInUse (s : State) (n : Nat) : Bool := (s.store.find n).isSome && s.liveJobs n != 0

/-- R7, R8. -/
def handleLoadRecipe (raw : RawRecipe) (s : State) : Handled :=
  match checkRecipe raw with
  | some f => refuseField f s
  | none =>
    let r := raw.recipe
    if s.recipeInUse r.number then refuse .inUse s
    else if s.store.room r.number < r.tabs then
      { state := s, body := .fullRoom r.tabs (s.store.room r.number) s.store.free }
    else
      let s := s.updStore fun st => st.put r
      accept (.freeCount s.store.free) s

/-- LOAD_RECIPE (R7, R8). -/
def execLoadRecipe (s : State) : Host.Outcome State Fault Refusal :=
  request (ofKind 0x10#8) (recipeGuarded rawRecipe handleLoadRecipe) s

/-! ## DROP RECIPE -/

/-- R10. -/
def handleDropRecipe (n : Nat) (s : State) : Handled :=
  if !within 1 Config.recipePlaces n then refuseField (field 1) s
  else if (s.store.find n).isNone then refuse .notFound s
  else if s.recipeInUse n then refuse .inUse s
  else
    let s := s.updStore fun st => st.drop n
    accept (.freeCount s.store.free) s

/-- DROP_RECIPE (R10). -/
def execDropRecipe (s : State) : Host.Outcome State Fault Refusal :=
  request (ofKind 0x11#8) (recipeGuarded byte1 handleDropRecipe) s

/-! ## GET RECIPE -/

/-- R11. -/
def handleGetRecipe (n : Nat) (s : State) : Handled :=
  if !within 0 Config.recipePlaces n then refuseField (field 1) s
  else
    match s.store.find n with
    | none => refuse .notFound s
    | some r => accept (.recipe r s.store.free s.store.carried (s.liveJobs n)) s

/-- The frame asks GET RECIPE for the directory: its recipe number is 0 (R12). -/
def asksRecipeDirectory (f : Frame) : Bool := f.payload == [0#8]

/-- GET_RECIPE (R11): every GET RECIPE frame but those of R12. -/
def execGetRecipe (s : State) : Host.Outcome State Fault Refusal :=
  request (fun f => ofKind 0x12#8 f && !asksRecipeDirectory f) (recipeGuarded byte1 handleGetRecipe) s

/-- R12: an entry of the recipe directory. -/
def recipeLine (s : State) (r : Recipe) : RecipeLine :=
  { number := r.number, boards := r.boards.length, tabs := r.tabs, live := s.liveJobs r.number }

/-- R12: the directory, in ascending recipe number, with the store summary. -/
def handleRecipeDirectory (s : State) : Handled :=
  accept (.recipeDirectory (s.store.recipes.map (recipeLine s)) s.store.free s.store.carried) s

/-- GET_RECIPE_DIRECTORY (R12). -/
def execGetRecipeDirectory (s : State) : Host.Outcome State Fault Refusal :=
  request (fun f => ofKind 0x12#8 f && asksRecipeDirectory f) (recipeGuarded byte1 fun _ => handleRecipeDirectory) s

end Sys2Proof.Machine
end

