-- ==== Sys2Proof/Machine/RouteCmds.lean ====
section
/-! DEFINITION. The commands of the Claim Router: SET_CLAIM, GET_CLAIMS and EMPTY_TRAY. -/

namespace Sys2Proof.Machine

/-- The claim entry of checked fields (R146). -/
def RawClaim.entry (c : RawClaim) : ClaimEntry :=
  { enabled := c.enabled == 1, low := c.low, high := c.high, bay := Fin.ofNat 4 c.bay, zone := c.zone,
    exactOnly := c.exactOnly == 1 }

/-- R146: one entry is replaced whole. -/
def setClaim (i : Nat) (e : ClaimEntry) (r : RouteRec) : RouteRec := { r with claims := r.claims.setIfInBounds i e }

/-- R146. -/
def handleSetClaim (c : RawClaim) (s : State) : Handled :=
  match checkClaim c with
  | some f => refuseField f s
  | none =>
    let s := retryWait (s.updRoute (setClaim c.index c.entry))
    accept (.claimSet c.entry s.route.wait) s

/-- SET_CLAIM (R146). -/
def execSetClaim (s : State) : Host.Outcome State Fault Refusal := request (ofKind 0x18#8) (guarded rawClaim handleSetClaim) s

/-- R147. -/
def handleGetClaims (s : State) : Handled :=
  accept (.claims s.route.claims s.route.wait s.route.trayCount s.route.trayPolicy s.mode.options.tray
    s.route.trayInProgress) s

/-- GET_CLAIMS (R147). -/
def execGetClaims (s : State) : Host.Outcome State Fault Refusal :=
  request (ofKind 0x19#8) (guarded noFields fun _ => handleGetClaims) s

/-- R155. -/
def handleEmptyTray (s : State) : Handled :=
  if !s.mode.options.tray || s.route.trayInProgress then refuse .wrongState s
  else
    let before := s.route.trayCount
    let s := retryWait (s.updRoute fun r => { r with trayCount := 0 })
    accept (.trayEmptied before s.route.wait) s

/-- EMPTY_TRAY (R155). -/
def execEmptyTray (s : State) : Host.Outcome State Fault Refusal :=
  request (ofKind 0x3B#8) (guarded noFields fun _ => handleEmptyTray) s

end Sys2Proof.Machine
end

