-- ==== Sys2Proof/Machine/ShuttleCmds.lean ====
section
/-! DEFINITION. The events of the Shuttle Controller: PANEL_PRESENT, PANEL_REMOVED, SHUTTLE_AREA_REQUEST, SHUTTLE_IN_POSITION and
SHUTTLE_MOVE_OUT_COMPLETE. -/

namespace Sys2Proof.Machine

/-- The level of a shuttle's panel-present line (R44). -/
def setPanelLine (sh : Shuttle) (level : Bool) (s : State) : State := s.updShuttle sh fun r => { r with panelLine := level }

/-! ## Panels at the load window (R44, R45, R53) -/

/-- R45: the oldest ANNOUNCED job whose preference allows the shuttle. -/
def jobForShuttle (sh : Shuttle) (jobs : List Job) : Option Job :=
  jobs.find? fun j => j.state == .announced && j.pref.allows sh

/-- R45: a panel arrives on a VACANT shuttle. -/
def panelArrives (sh : Shuttle) (s : State) : State :=
  match jobForShuttle sh s.jobs with
  | some j => bindJob sh j.tag s
  | none =>
    s.updShut fun c =>
      let c := c.set sh { c.get sh with state := .unbound }
      { c with seated := c.seated ++ [sh] }

/-- PANEL_PRESENT (R44): the line's level is followed in every state; the event is an arrival on a VACANT shuttle only. -/
def execPanelPresent (sh : Shuttle) (s : State) : Host.Outcome State Fault Refusal :=
  applied (fun s =>
    let s := setPanelLine sh true s
    if (s.shuttle sh).state = .vacant then panelArrives sh s else s) s

/-- R37: the job of a panel taken off early is withdrawn with cause PANEL REMOVED; its bound shuttle becomes none. -/
def withdrawRemoved (tag : Nat) (s : State) : State :=
  let s := abandonBoards tag (s.updJob tag fun j => { j with cause := .panelRemoved })
  jobEvent tag .panelRemoved (fun j => { j with bound := none }) s

/-- R53: an early removal. -/
def earlyRemoval (sh : Shuttle) (s : State) : State :=
  let tag := (s.shuttle sh).bound
  let s := s.updShut fun c =>
    let c := c.setWait sh false
    c.set sh { c.get sh with state := .vacant, bound := 0 }
  withdrawRemoved tag s

/-- R44: a panel or frame is taken off a shuttle. -/
def panelLeaves (sh : Shuttle) (s : State) : State :=
  match (s.shuttle sh).state with
  | .unbound =>
    s.updShut fun c =>
      let c := c.set sh { c.get sh with state := .vacant }
      { c with seated := c.seated.filter (· != sh) }
  | .seated | .waitingArea => earlyRemoval sh s
  | .atWindow => s.updShuttle sh fun r => { r with state := .vacant, bound := 0 }
  | .vacant | .movingIn | .atCut | .movingOut => s

/-- PANEL_REMOVED (R44). -/
def execPanelRemoved (sh : Shuttle) (s : State) : Host.Outcome State Fault Refusal :=
  applied (fun s => panelLeaves sh (setPanelLine sh false s)) s

/-! ## The cut area (R47 to R51) -/

/-- SHUTTLE_AREA_REQUEST (R47): the shuttle asks if it is still SEATED and the mode is RUN; the arbiter's test follows (R48).
(DEDUCED, log entry 11.) -/
def execShuttleAreaRequest (sh : Shuttle) (s : State) : Host.Outcome State Fault Refusal :=
  if (s.shuttle sh).state = .seated ∧ s.mode.mode = .run then applied (fun s => arbiterTest (askArea sh s)) s
  else notApplied s

/-- R50: the in-position event: the job becomes CUTTING and is taken up, or, with a withdrawal pending, WITHDRAWN with the move
out asked for (R34). -/
def arriveAtCut (sh : Shuttle) (s : State) : State :=
  let tag := (s.shuttle sh).bound
  let s := s.updShuttle sh fun r => { r with state := .atCut, moveReq := none }
  if s.withdrawing tag then askMoveOut sh (jobEvent tag .inPositionWithdrawn id (abandonBoards tag s))
  else takeUpJob tag (jobEvent tag .inPosition id s)

/-- SHUTTLE_IN_POSITION (R50). -/
def execShuttleInPosition (sh : Shuttle) (req : ReqNo) (s : State) : Host.Outcome State Fault Refusal :=
  if (s.shuttle sh).state = .movingIn ∧ (s.shuttle sh).moveReq = some req then applied (arriveAtCut sh) s
  else notApplied s

/-- R51: the end of the move out: the panel-present line is read. -/
def arriveAtWindow (r : ShuttleRec) : ShuttleRec :=
  if r.panelLine then { r with state := .atWindow, moveReq := none }
  else { r with state := .vacant, bound := 0, moveReq := none }

/-- SHUTTLE_MOVE_OUT_COMPLETE (R51); a group come to rest may be sent its park motion (R195). -/
def execShuttleMoveOutComplete (sh : Shuttle) (req : ReqNo) (s : State) : Host.Outcome State Fault Refusal :=
  if (s.shuttle sh).state = .movingOut ∧ (s.shuttle sh).moveReq = some req then
    applied (fun s => parkTest (s.updShuttle sh arriveAtWindow)) s
  else notApplied s

end Sys2Proof.Machine
end

