-- ==== Sys2Proof/Machine/ToolCmds.lean ====
section
/-! DEFINITION. The commands of the Tool Monitor: SET_TOOL, RACK_BIT, GET_TOOL, CHANGER_COMPLETE, CHANGER_FAULT and
CHANGER_WATCH_EXPIRY. -/

namespace Sys2Proof.Machine

/-! ## SET TOOL (R117, R118) -/

/-- R117, step 4: SET TOOL is taken in this bit state and mode. -/
def State.takesTool (s : State) : Bool :=
  let still := s.mode.mode == .paused || s.mode.mode == .stopped
  match s.tool.state with
  | .none | .expired => true
  | .fitted => still
  | .changing => still && !s.changerMoving

/-- R118: a bit is declared by hand. (DEDUCED, log entry 18.) -/
def declareBit (d : BitDesc) (s : State) : State :=
  let s := s.updTool fun t => fitBit d { t with op := none }
  toolReport .setTool (reportFitted s)

/-- R117, R118. -/
def handleSetTool (d : BitDesc) (s : State) : Handled :=
  match checkBit d with
  | some f => refuseField f s
  | none =>
    if s.seq.pass.isSome || !s.takesTool then refuse .busy s
    else
      let s := declareBit d s
      accept (.toolSet (segmentCount d) (segmentShares d)) s

/-- SET_TOOL (R117, R118). -/
def execSetTool (s : State) : Host.Outcome State Fault Refusal :=
  request (ofKind 0x30#8) (guarded rawBit handleSetTool) s

/-! ## RACK BIT (R119) -/

/-- R119: the descriptor joins the rack; a change is decided if the change condition is now true, and one RACK report queued. -/
def addToRack (d : BitDesc) (s : State) : State :=
  let s := s.updTool fun t => { t with rack := t.rack ++ [d] }
  match changeEntry? s with
  | some entry => decideChange .rack entry s
  | none => toolReport .rack s

/-- R119. -/
def handleRackBit (d : BitDesc) (s : State) : Handled :=
  match checkBit d with
  | some f => refuseField f s
  | none =>
    if Config.rackLimit ≤ s.tool.rack.length then refuse .full s
    else
      let s := addToRack d s
      accept (.rackAdded s.tool.rack.length s.tool.state) s

/-- RACK_BIT (R119). -/
def execRackBit (s : State) : Host.Outcome State Fault Refusal :=
  request (ofKind 0x31#8) (guarded rawBit handleRackBit) s

/-! ## GET TOOL (R100) -/

/-- GET_TOOL (R100). -/
def execGetTool (s : State) : Host.Outcome State Fault Refusal :=
  request (ofKind 0x32#8) (guarded noFields fun _ s => accept (.tool s.tool) s) s

/-! ## The changer (R122, R123) -/

/-- R122: the tool change completes: the rack's head is fitted. (DEDUCED, log entry 18.) -/
def fitFromRack (entry : BitDesc) (s : State) : State :=
  let s := s.updTool fun t => fitBit entry { t with rack := t.rack.drop 1, op := none }
  parkTest (toolReport .changeDone (reportFitted s))

/-- CHANGER_COMPLETE (R122). -/
def execChangerComplete (req : ReqNo) (s : State) : Host.Outcome State Fault Refusal :=
  match s.tool.op with
  | some op => if s.movingChange req then applied (fitFromRack op.entry) s else notApplied s
  | none => notApplied s

/-- CHANGER_FAULT (R123). -/
def execChangerFault (req : ReqNo) (s : State) : Host.Outcome State Fault Refusal :=
  if s.movingChange req then applied (fun s => parkTest (failChanger .fault s)) s else notApplied s

/-- CHANGER_WATCH_EXPIRY (R123): BAY DRIVE is sent an abandon of the tool change. -/
def execChangerWatchExpiry (s : State) : Host.Outcome State Fault Refusal :=
  if s.changerMoving then applied (fun s => parkTest (failChanger .watch (sendPlain .abandonToolChange s))) s
  else notApplied s

end Sys2Proof.Machine
end

