-- ==== Sys2Proof/Machine/Dispatch.lean ====
section
/-! DEFINITION. The dispatch: one arm per command, each one direct call of its meaning. -/

namespace Sys2Proof.Machine

/-- The effect of a command on everything but the queue of waiting commands. -/
def exec (i : Instr) (s : State) : Host.Outcome State Fault Refusal :=
  match i with
  | .powerOnReset pins => Sys2Proof.Machine.execPowerOnReset pins s
  | .frameReceived bytes => Sys2Proof.Machine.execFrameReceived bytes s
  | .frameGapTimeout => Sys2Proof.Machine.execFrameGapTimeout s
  | .skipQuietGap => Sys2Proof.Machine.execSkipQuietGap s
  | .frameSent => Sys2Proof.Machine.execFrameSent s
  | .unknownKind => Sys2Proof.Machine.execUnknownKind s
  | .getStatus => Sys2Proof.Machine.execGetStatus s
  | .configure => Sys2Proof.Machine.execConfigure s
  | .setCellTag => Sys2Proof.Machine.execSetCellTag s
  | .setReports => Sys2Proof.Machine.execSetReports s
  | .ackFlags => Sys2Proof.Machine.execAckFlags s
  | .loadRecipe => Sys2Proof.Machine.execLoadRecipe s
  | .dropRecipe => Sys2Proof.Machine.execDropRecipe s
  | .getRecipe => Sys2Proof.Machine.execGetRecipe s
  | .getRecipeDirectory => Sys2Proof.Machine.execGetRecipeDirectory s
  | .setClaim => Sys2Proof.Machine.execSetClaim s
  | .getClaims => Sys2Proof.Machine.execGetClaims s
  | .announcePanel => Sys2Proof.Machine.execAnnouncePanel s
  | .withdrawPanel => Sys2Proof.Machine.execWithdrawPanel s
  | .getJob => Sys2Proof.Machine.execGetJob s
  | .getJobDirectory => Sys2Proof.Machine.execGetJobDirectory s
  | .releaseJob => Sys2Proof.Machine.execReleaseJob s
  | .setTool => Sys2Proof.Machine.execSetTool s
  | .rackBit => Sys2Proof.Machine.execRackBit s
  | .getTool => Sys2Proof.Machine.execGetTool s
  | .acceptMagazine => Sys2Proof.Machine.execAcceptMagazine s
  | .swapBay => Sys2Proof.Machine.execSwapBay s
  | .getBay => Sys2Proof.Machine.execGetBay s
  | .emptyTray => Sys2Proof.Machine.execEmptyTray s
  | .pause => Sys2Proof.Machine.execPause s
  | .resume => Sys2Proof.Machine.execResume s
  | .park => Sys2Proof.Machine.execPark s
  | .wake => Sys2Proof.Machine.execWake s
  | .resetEnable => Sys2Proof.Machine.execResetEnable s
  | .cellReset => Sys2Proof.Machine.execCellReset s
  | .cellResetTakesEffect => Sys2Proof.Machine.execCellResetTakesEffect s
  | .panelPresent sh => Sys2Proof.Machine.execPanelPresent sh s
  | .panelRemoved sh => Sys2Proof.Machine.execPanelRemoved sh s
  | .shuttleAreaRequest sh => Sys2Proof.Machine.execShuttleAreaRequest sh s
  | .shuttleInPosition sh req => Sys2Proof.Machine.execShuttleInPosition sh req s
  | .shuttleMoveOutComplete sh req => Sys2Proof.Machine.execShuttleMoveOutComplete sh req s
  | .passCompletion req load overrun => Sys2Proof.Machine.execPassCompletion req load overrun s
  | .cutWatchExpiry => Sys2Proof.Machine.execCutWatchExpiry s
  | .interlockActivation line => Sys2Proof.Machine.execInterlockActivation line s
  | .interlockClearing line => Sys2Proof.Machine.execInterlockClearing line s
  | .lineHoldAssertion line => Sys2Proof.Machine.execLineHoldAssertion line s
  | .lineHoldDeassertion line => Sys2Proof.Machine.execLineHoldDeassertion line s
  | .driveFaultEvent group req => Sys2Proof.Machine.execDriveFaultEvent group req s
  | .referencingComplete group req occupied => Sys2Proof.Machine.execReferencingComplete group req occupied s
  | .parkComplete group req => Sys2Proof.Machine.execParkComplete group req s
  | .vacuumMade => Sys2Proof.Machine.execVacuumMade s
  | .vacuumLost => Sys2Proof.Machine.execVacuumLost s
  | .vacuumWatchExpiry => Sys2Proof.Machine.execVacuumWatchExpiry s
  | .approachComplete req => Sys2Proof.Machine.execApproachComplete req s
  | .transferComplete req => Sys2Proof.Machine.execTransferComplete req s
  | .parkWaitComplete req => Sys2Proof.Machine.execParkWaitComplete req s
  | .lowerComplete req => Sys2Proof.Machine.execLowerComplete req s
  | .returnComplete req => Sys2Proof.Machine.execReturnComplete req s
  | .placeWatchExpiry => Sys2Proof.Machine.execPlaceWatchExpiry s
  | .slotSeated bay slot => Sys2Proof.Machine.execSlotSeated bay slot s
  | .trayEntry => Sys2Proof.Machine.execTrayEntry s
  | .magazinePresent bay => Sys2Proof.Machine.execMagazinePresent bay s
  | .magazineRemoved bay => Sys2Proof.Machine.execMagazineRemoved bay s
  | .latchComplete bay req => Sys2Proof.Machine.execLatchComplete bay req s
  | .changerComplete req => Sys2Proof.Machine.execChangerComplete req s
  | .changerFault req => Sys2Proof.Machine.execChangerFault req s
  | .changerWatchExpiry => Sys2Proof.Machine.execChangerWatchExpiry s

end Sys2Proof.Machine
end

