-- ==== Sys2Proof/Machine/Encode.lean ====
section
/-! DEFINITION. The bytes of the frames the controller sends (R201, and "Reply and report payloads" of
12_the_message_link.md). What the layouts leave open is fixed in log entry 30. -/

namespace Sys2Proof.Machine

/-! ## Items -/

/-- A number or a code of one byte. -/
def enc1 (n : Nat) : List Byte := [BitVec.ofNat 8 n]

/-- A number of two bytes, little-endian. -/
def enc2 (n : Nat) : List Byte := [BitVec.ofNat 8 n, BitVec.ofNat 8 (n / 256)]

/-- A number of four bytes, little-endian. -/
def enc4 (n : Nat) : List Byte := enc2 (n % 65536) ++ enc2 (n / 65536)

/-- A two-valued item. -/
def encBool (b : Bool) : List Byte := enc1 (if b then 1 else 0)

/-- An item that may be absent, behind its marker byte. -/
def encOpt {α : Type} (f : α → List Byte) : Option α → List Byte
  | none => [0#8]
  | some x => 1#8 :: f x

/-- A list, behind its count byte. -/
def encList {α : Type} (f : α → List Byte) (l : List α) : List Byte := enc1 l.length ++ (l.map f).flatten

/-- A text. -/
def encText (t : List Byte) : List Byte := enc1 t.length ++ t

/-- A set given as the codes it may hold, ascending, each with its presence. -/
def encSet (l : List (Nat × Bool)) : List Byte := encList enc1 ((l.filter (·.2)).map (·.1))

/-! ## Named values: each takes its place in the list that first gives the names -/

def Mode.code : Mode → Nat
  | .homing => 0
  | .run => 1
  | .paused => 2
  | .stopped => 3
  | .parking => 4
  | .parked => 5

def StopCause.code : StopCause → Nat
  | .estop => 0
  | .door => 1
  | .driveFault => 2
  | .cutWatch => 3

def HomingKind.code : HomingKind → Nat
  | .full => 0
  | .inPlace => 1

def LineUse.code : LineUse → Nat
  | .unused => 0
  | .input => 1
  | .output => 2

def JobState.code : JobState → Nat
  | .announced => 0
  | .seated => 1
  | .waitingArea => 2
  | .loading => 3
  | .cutting => 4
  | .ended => 5
  | .withdrawn => 6

def WithdrawCause.code : WithdrawCause → Nat
  | .none => 0
  | .host => 1
  | .panelRemoved => 2

def LeaveListCause.code : LeaveListCause → Nat
  | .none => 0
  | .evicted => 1
  | .released => 2
  | .withdrawnUnbound => 3

def Preference.code : Preference → Nat
  | .either => 0
  | .a => 1
  | .b => 2

/-- A shuttle as a member of a set or list: A or B. -/
def shuttleCode : Shuttle → Nat
  | .A => 0
  | .B => 1

/-- A shuttle where none is one of the named values: none, A or B (R19, R43). -/
def boundCode : Option Shuttle → Nat
  | none => 0
  | some .A => 1
  | some .B => 2

def BoardState.code : BoardState → Nat
  | .waiting => 0
  | .cutting => 1
  | .holdPending => 2
  | .held => 3
  | .singled => 4
  | .placing => 5
  | .placed => 6
  | .rejected => 7
  | .unsevered => 8
  | .holdFailed => 9
  | .dropped => 10
  | .lost => 11
  | .left => 12
  | .abandoned => 13

def TabState.code : TabState → Nat
  | .pending => 0
  | .severed => 1
  | .failed => 2
  | .notCut => 3

def PassEnding.code : PassEnding → Nat
  | .clean => 0
  | .shallow => 1
  | .hard => 2
  | .interrupted => 3

def Decision.code : Decision → Nat
  | .severed => 0
  | .anotherPass => 1
  | .failed => 2
  | .none => 3

def BayState.code : BayState → Nat
  | .empty => 0
  | .present => 1
  | .online => 2
  | .draining => 3
  | .released => 4

def BayCause.code : BayCause → Nat
  | .magazineIn => 0
  | .removed => 1
  | .accepted => 2
  | .swapAsked => 3
  | .drained => 4
  | .latchOpen => 5
  | .removedUnexpected => 6
  | .slotBlocked => 7
  | .reset => 8

def SwapMark.code : SwapMark → Nat
  | .none => 0
  | .host => 1
  | .auto => 2

def Latch.code : Latch → Nat
  | .none => 0
  | .inFlight _ => 1
  | .held => 2
  | .done => 3

def BlockCause.code : BlockCause → Nat
  | .place => 0
  | .reset => 1
  | .stray => 2

/-- A run's state, by the slot run entry: 0 RESERVED, 1 OCCUPIED, 2 BLOCKED. No run is FREE or PRELOADED (R163). -/
def runStateCode : SlotState → Nat
  | .reserved => 0
  | .occupied => 1
  | .blocked | .free | .preloaded => 2

def ToolCause.code : ToolCause → Nat
  | .setTool => 0
  | .rack => 1
  | .configure => 2
  | .expiredWorn => 3
  | .expiredHard => 4
  | .expiredTwiceHard => 5
  | .changeStarted => 6
  | .halted => 7
  | .changeDone => 8
  | .fault => 9
  | .watch => 10
  | .reset => 11

def BitState.code : BitState → Nat
  | .none => 0
  | .fitted => 1
  | .expired => 2
  | .changing => 3

def LeaveCause.code : LeaveCause → Nat
  | .opened => 0
  | .worn => 1
  | .hard => 2
  | .expired => 3

def ChangePhase.code : ChangePhase → Nat
  | .waiting => 0
  | .moving => 1
  | .halted => 2

def ShuttleState.code : ShuttleState → Nat
  | .vacant => 0
  | .unbound => 1
  | .seated => 2
  | .waitingArea => 3
  | .movingIn => 4
  | .atCut => 5
  | .movingOut => 6
  | .atWindow => 7

def SeqState.code : SeqState → Nat
  | .idle => 0
  | .ready => 1
  | .pass => 2
  | .awaitHold => 3
  | .toolWait => 4
  | .finishing => 5

def FixReason.code : FixReason → Nat
  | .resume => 0
  | .tool => 1

def HeadState.code : HeadState → Nat
  | .idle => 0
  | .approach => 1
  | .holding => 2
  | .transfer => 3
  | .placing => 4
  | .returning => 5

def MotionKind.code : MotionKind → Nat
  | .approach => 0
  | .transfer => 1
  | .parkWait => 2
  | .lower => 3
  | .ret => 4

def WaitOutcome.code : WaitOutcome → Nat
  | .unclaimed => 0
  | .zoneFull => 1
  | .trayFull => 2

/-- The result codes (12_the_message_link.md). -/
def Result.code : Result → Nat
  | .ok => 0
  | .busy => 1
  | .unknownKind => 2
  | .badLength => 3
  | .badField => 4
  | .wrongState => 5
  | .locked => 6
  | .full => 7
  | .notFound => 8
  | .inUse => 9
  | .missingRecipe => 10
  | .sequence => 11
  | .parked => 12

/-! ## Sets and records -/

/-- Pause causes: HOST, LINE. -/
def encPause (p : PauseCauses) : List Byte := encSet [(0, p.host), (1, p.line)]

/-- Stop causes: E-STOP, DOOR, DRIVE FAULT, CUT WATCH. -/
def encStops (c : StopCauses) : List Byte := encSet [(0, c.estop), (1, c.door), (2, c.driveFault), (3, c.cutWatch)]

/-- Drive groups: SPINDLE GANTRY, PICK GANTRY, SHUTTLE DRIVE, BAY DRIVE. -/
def encGroups (g : GroupSet) : List Byte := encSet [(0, g.spindle), (1, g.pick), (2, g.shuttle), (3, g.bay)]

/-- The report classes, 1 to 7, in order. -/
def reportClasses : List ReportClass := [.cell, .job, .board, .cut, .bay, .tool, .flag]

/-- A report-class mask, as class numbers. -/
def encMask (m : Mask) : List Byte := encSet (reportClasses.map fun c => (c.number, m.get c))

/-- A flag set, as flag numbers. -/
def encFlags (f : FlagSet) : List Byte := encSet (allFlags.map fun x => (x.number, f.get x))

/-- A destination: 0 none, 1 a run with its bay, first slot and slot count, 2 the tray. -/
def encDest : Destination → List Byte
  | .none => enc1 0
  | .run b first count => enc1 1 ++ enc1 b.val ++ enc1 first ++ enc1 count
  | .tray => enc1 2

/-- A board named by its job tag and board index. -/
def encRef (r : BoardRef) : List Byte := enc2 r.job ++ enc1 r.board

/-- The end summary (R32). -/
def encSummary (u : Summary) : List Byte :=
  enc1 u.placed ++ enc1 u.rejected ++ enc1 u.unsevered ++ enc1 u.holdFailed ++ enc1 u.dropped ++ enc1 u.lost ++
  enc1 u.left ++ enc1 u.abandoned ++ enc1 u.severed ++ enc1 u.failed ++ enc1 u.notCut ++ enc1 u.interrupted

/-- A tab record (R25). -/
def encTab (t : TabRec) : List Byte :=
  enc1 t.state.code ++ enc1 t.used ++ encBool t.interrupted ++ encBool t.clamped ++ encBool t.hard

/-- A bit descriptor (R83). -/
def encBit (d : BitDesc) : List Byte := enc2 d.d ++ enc2 d.u ++ enc2 d.s ++ enc1 d.nreq ++ enc2 d.lb

/-- A slot run entry, as MAGAZINE OUT carries it. -/
def encRunEntry (e : RunEntry) : List Byte :=
  enc1 e.first ++ enc1 e.run.count ++ enc1 (runStateCode e.state) ++ enc2 e.run.job ++ enc1 e.run.board ++
  enc2 e.run.product ++ encBool e.run.ranged

/-- A claim entry, as the fields of SET CLAIM behind the index. -/
def encClaim (c : ClaimEntry) : List Byte :=
  encBool c.enabled ++ enc2 c.low ++ enc2 c.high ++ enc1 c.bay.val ++ enc1 c.zone ++ encBool c.exactOnly

/-- A destination-wait record (R145). -/
def encWait (w : WaitRec) : List Byte := encRef w.ref ++ enc2 w.product ++ enc1 w.outcome.code ++ encBool w.trayBound

/-- The configured options, as the fields of CONFIGURE (R184). -/
def encOptions (o : Options) (policy : Bool) : List Byte :=
  (o.enables.toList.map encBool).flatten ++ encBool o.tray ++ encBool o.changer ++ encBool policy ++ encBool o.autoSwap ++
  enc1 o.upUse.code ++ enc1 o.downUse.code

/-- The strap record (R183). -/
def encStraps (s : Straps) : List Byte :=
  enc1 (match s.bays with
    | .two => 2
    | .four => 4) ++
  encBool s.tray ++ encBool s.changer ++ enc1 (State.strapUse s.upline).code ++ enc1 (State.strapUse s.downline).code ++
  enc4 (match s.baud with
    | .b115200 => 115200
    | .b230400 => 230400
    | .b460800 => 460800
    | .b921600 => 921600)

/-- A tab entry of a recipe. -/
def encTabEntry (t : TabEntry) : List Byte :=
  enc2 t.tx ++ enc2 t.ty ++ enc2 t.w ++ enc1 (match t.dir with
    | .x => 0
    | .y => 1)

/-- A board entry of a recipe, followed by its tab entries. -/
def encBoardEntry (b : BoardEntry) : List Byte :=
  enc1 b.index ++ enc2 b.product ++ enc2 b.ox ++ enc2 b.oy ++ enc1 b.tabs.length ++ (b.tabs.map encTabEntry).flatten

/-- A recipe record, as LOAD RECIPE carries it. -/
def encRecipe (r : Recipe) : List Byte :=
  enc1 r.number ++ enc2 r.pw ++ enc2 r.ph ++ enc2 r.t ++ enc2 r.hc ++ enc1 r.f ++ enc2 r.o ++ enc2 r.b ++ enc2 r.zc ++
  enc1 r.passLimit ++ enc1 r.boards.length ++ (r.boards.map encBoardEntry).flatten

/-! ## Reports -/

/-- CELL STATE (R200). -/
def encCell (r : CellReport) : List Byte :=
  enc1 r.event.rank ++ enc1 r.mode.code ++ encPause r.pause ++ encStops r.stop ++ encGroups r.faulted ++
  encOpt (fun h => enc1 h.1.code ++ encGroups h.2) r.homing ++ encBool r.estopActive ++ encBool r.doorActive ++
  enc1 r.upUse.code ++ encBool r.upLevel ++ enc1 r.downUse.code ++ encBool r.downLevel ++ encBool r.locked ++
  encOpt encText r.tag

/-- JOB STATE (R40). -/
def encJobReport (r : JobReport) : List Byte :=
  enc2 r.tag ++ encOpt encText r.panelId ++ enc1 r.state.code ++ enc1 r.cause.code ++ enc1 (boundCode r.bound) ++
  enc1 r.leave.code ++ encOpt encSummary r.summary

/-- BOARD DONE (R41). -/
def encBoardReport (r : BoardReport) : List Byte :=
  enc2 r.job ++ enc1 r.board ++ enc2 r.product ++ enc1 r.state.code ++ encBool r.xout ++ encBool r.damage ++
  encBool r.ranged ++ encDest r.dest ++ enc1 r.severed ++ enc1 r.failed ++ enc1 r.notCut ++ enc1 r.interrupted

/-- TAB DONE (R113). -/
def encTabReport (r : TabReport) : List Byte :=
  enc2 r.job ++ enc1 r.board ++ enc1 r.ring ++ encBool r.held ++ enc1 r.p ++ enc1 r.k ++ enc2 r.depth ++
  encBool r.clamped ++ enc1 r.ending.code ++ encBool r.overrun ++ encOpt (fun c => enc1 c.code) r.stopCause ++
  enc1 r.decision.code ++ encTab r.tab ++ encBool r.damage

/-- BAY STATE (R181). -/
def encBayReport (r : BayReport) : List Byte :=
  enc1 r.bay.val ++ enc1 r.cause.code ++ enc1 r.state.code ++ enc1 r.swap.code ++ encOpt encText r.tag ++
  encList (fun z => enc1 z.free ++ enc1 z.longest) r.zones

/-- MAGAZINE OUT (R176). -/
def encMagazineOut (r : MagazineOut) : List Byte :=
  enc1 r.bay.val ++ encText r.tag ++ enc1 r.slots ++ enc1 r.swap.code ++ encBool r.unexpected ++ enc1 r.preloaded ++
  enc1 r.blockedAlone ++ encList encRunEntry r.runs

/-- TOOL STATE (R126). -/
def encToolReport (r : ToolReport) : List Byte :=
  enc1 r.cause.code ++ enc1 r.state.code ++ encOpt encBit r.desc ++ enc1 r.n ++ enc1 r.k ++ enc2 r.used ++
  enc2 r.forfeits ++ enc2 r.remaining ++ enc2 r.charged ++ enc1 r.rackCount ++
  encOpt (fun op => enc1 op.phase.code ++ enc1 op.attempts ++ encBit op.entry) r.op

/-- A report's kind (report table). -/
def Report.kind : Report → Byte
  | .cellState _ => 0x60#8
  | .jobState _ => 0x61#8
  | .boardDone _ => 0x62#8
  | .tabDone _ => 0x63#8
  | .bayState _ => 0x64#8
  | .magazineOut _ => 0x65#8
  | .toolState _ => 0x66#8
  | .flagRaised _ _ => 0x67#8

/-- A report's payload. -/
def Report.payload : Report → List Byte
  | .cellState r => encCell r
  | .jobState r => encJobReport r
  | .boardDone r => encBoardReport r
  | .tabDone r => encTabReport r
  | .bayState r => encBayReport r
  | .magazineOut r => encMagazineOut r
  | .toolState r => encToolReport r
  | .flagRaised x f => enc1 x.number ++ encFlags f

/-! ## Replies -/

/-- The mode record of GET STATUS (R182), with the interlock lines' levels behind it (R190). -/
def encMode (m : ModeRec) (policy : Bool) : List Byte :=
  enc1 m.mode.code ++ encPause m.pause ++ encStops m.stop ++ encGroups m.faulted ++ enc1 m.homing.code ++
  encGroups m.referenced ++ encGroups m.parkDone ++ encStraps m.straps ++ encOptions m.options policy ++ encBool m.locked ++
  encOpt encText m.tag ++ enc1 m.options.upUse.code ++ encBool m.upLevel ++ enc1 m.options.downUse.code ++
  encBool m.downLevel ++ encBool m.estopActive ++ encBool m.doorActive

/-- A shuttle record (R43). -/
def encShuttle (r : ShuttleRec) : List Byte :=
  enc1 r.state.code ++ enc2 r.bound ++ encBool r.moveOutPending ++ encBool r.interrupted

/-- The Shuttle Controller's part of GET STATUS (R43). -/
def encShuttles (c : ShuttleCtl) : List Byte :=
  encShuttle c.a ++ encShuttle c.b ++ enc1 (boundCode c.holder) ++ encSet [(0, c.waitA), (1, c.waitB)] ++
  encList (fun x => enc1 (shuttleCode x)) c.seated

/-- The pass in flight (R81). -/
def encPass (r : PassRec) : List Byte :=
  enc1 r.board ++ enc1 r.ring ++ encBool r.held ++ enc1 r.p ++ enc1 r.grant.k ++ enc2 r.grant.depth ++
  encBool r.grant.clamped ++ enc1 r.grant.feed ++ enc2 r.grant.watch

/-- The sequencer's record (R81). The cut order and the tabs' states are one list of ring indices, each with its tab's state.
(DESIGN CHOICE, log entry 30.) -/
def encSeq (q : SeqRec) (tabs : List TabState) (holds : List BoardState) : List Byte :=
  enc1 q.state.code ++ enc2 q.job ++
  encOpt (fun i => enc1 i ++ encList (fun e => enc1 e.1 ++ enc1 e.2.code) (q.order.zip tabs)) q.board ++
  encList (fun e => enc1 e.1 ++ enc1 e.2.code) (q.holdList.zip holds) ++
  encOpt (fun f => enc1 f.board ++ enc1 f.ring ++ enc1 f.reason.code) q.fixed ++ enc2 q.posX ++ enc2 q.posY ++
  encOpt encPass q.pass

/-- The head's motion (R127). -/
def encMotion : Motion → List Byte
  | .none => enc1 0
  | .inFlight kind _ => enc1 1 ++ enc1 kind.code
  | .held kind => enc1 2 ++ enc1 kind.code

/-- The pick record (R144). -/
def encPick (p : PickRec) (states : List BoardState) (dest : Destination) : List Byte :=
  enc1 p.head.code ++ encList (fun e => encRef e.1 ++ enc1 e.2.code) (p.queue.zip states) ++ encOpt encRef p.served ++
  encOpt (fun r => encRef r ++ encDest dest) p.carried ++ encBool p.retry ++ encBool p.heldPass ++ encBool p.holdLost ++
  encBool p.demand ++ encBool p.vacWatch ++ encBool p.placeWatch ++ encDest p.awaited ++ encMotion p.motion

/-- GET STATUS (R207). -/
def encStatus (r : StatusReply) : List Byte :=
  encMask r.mask ++ encFlags r.flags ++ enc2 r.linkErrors ++ encBool r.reportsLost ++ enc1 r.reports ++ enc1 r.frames ++
  encMode r.mode r.trayPolicy ++ encShuttles r.shut ++ encSeq r.seq r.orderTabs r.holdStates ++
  encPick r.pick r.queueStates r.carriedDest

/-- A board record of GET JOB with its product code (R39). -/
def encBoard (product : Nat) (b : BoardRec) : List Byte :=
  enc1 b.index ++ enc2 product ++ enc1 b.state.code ++ encBool b.xout ++ encDest b.dest ++ encBool b.ranged ++
  encBool b.damage ++ encList encTab b.tabs

/-- GET JOB (R39). -/
def encJob (position : Nat) (j : Job) (products : List Nat) : List Byte :=
  enc2 j.tag ++ enc1 j.recipe ++ encBool j.repeatMark ++ enc1 j.orientation ++ enc1 j.pref.code ++
  encOpt (encList enc1) j.xoutList ++ encOpt encText j.panelId ++ enc1 j.state.code ++ enc1 j.cause.code ++
  enc1 (boundCode j.bound) ++ enc1 position ++ encList (fun e => encBoard e.1 e.2) (products.zip j.boards) ++
  encOpt encSummary j.summary

/-- A segment of GET TOOL (R100). -/
def encSegment (g : Segment) : List Byte :=
  enc2 g.share ++ enc2 g.used ++ enc1 g.cause.code ++ enc2 g.forfeit ++ enc2 g.remaining

/-- A changer operation of GET TOOL (R116). -/
def encOp (op : ChangerOp) : List Byte :=
  enc1 op.phase.code ++ encBit op.entry ++ enc1 op.attempts ++ encBool (op.phase == .moving)

/-- GET TOOL (R100). -/
def encTool (t : ToolRec) : List Byte :=
  enc1 t.state.code ++ encOpt encBit t.desc ++ enc1 t.n ++ enc2 t.q ++ enc1 t.k ++ encList encSegment t.segs ++
  enc2 (usedTotal t.segs) ++ enc2 (forfeitTotal t.segs) ++ enc2 (remainingTotal t.segs) ++ enc2 t.charged ++
  enc1 t.hardCount ++ encList encBit t.rack ++ encOpt encOp t.op

/-- A magazine record (R180). -/
def encMagazine (m : MagRec) : List Byte := encText m.tag ++ enc1 m.slots ++ enc2 m.pitch ++ encList enc1 m.zoneEnds

/-- A run of GET BAY in R180's order: the run head's slot, then the run's state, slot count, run fields and block cause.
(DESIGN CHOICE, log entry 30.) -/
def encMapRun (e : RunEntry) : List Byte :=
  enc1 e.first ++ enc1 (runStateCode e.state) ++ enc1 e.run.count ++ enc2 e.run.job ++ enc1 e.run.board ++
  enc2 e.run.product ++ encBool e.run.ranged ++ encOpt (fun c => enc1 c.code) e.run.cause

/-- The runs and lists of a slot map (R180). -/
def encMap (runs : List RunEntry) (preloaded alone : List Nat) : List Byte :=
  encList encMapRun runs ++ encList enc1 preloaded ++ encList enc1 alone

/-- GET BAY (R180). -/
def encBay (r : BayReply) : List Byte :=
  enc1 r.state.code ++ encBool r.disabled ++ enc1 r.swap.code ++ enc1 r.latch.code ++ enc2 r.stray ++
  encOpt encMagazine r.mag ++
  encList (fun z => enc1 z.first ++ enc1 z.last ++ enc1 z.free ++ enc1 z.longest) r.zones ++
  encOpt (fun run => enc1 run.first ++ enc1 run.count) r.awaited ++
  encOpt (fun runs => encMap runs r.preloaded r.blockedAlone) r.runs ++ encBool r.trayAwaited

/-- An entry of the recipe directory (R12). -/
def encRecipeLine (l : RecipeLine) : List Byte := enc1 l.number ++ enc1 l.boards ++ enc1 l.tabs ++ enc1 l.live

/-- An entry of the job directory (R39). -/
def encJobLine (l : JobLine) : List Byte :=
  enc2 l.tag ++ enc1 l.recipe ++ enc1 l.state.code ++ enc1 l.cause.code ++ enc1 (boundCode l.bound) ++ enc1 l.finalBoards

/-- What an OK reply carries behind its result code. -/
def OkBody.payload : OkBody → List Byte
  | .empty => []
  | .status r => encStatus r
  | .options o policy => encOptions o policy
  | .cellTag t => encText t
  | .mask m => encMask m
  | .flags f => encFlags f
  | .freeCount n => enc2 n
  | .recipe r free carried live => encRecipe r ++ enc2 free ++ enc1 carried ++ enc1 live
  | .recipeDirectory lines free carried => encList encRecipeLine lines ++ enc2 free ++ enc1 carried
  | .claimSet e w => encClaim e ++ encOpt encWait w
  | .claims table w count policy option inProgress =>
    (table.toList.map encClaim).flatten ++ encOpt encWait w ++ enc1 count ++ encBool policy ++ encBool option ++
    encBool inProgress
  | .announced tag used position state bound listed =>
    enc2 tag ++ enc1 used ++ enc1 position ++ enc1 state.code ++ enc1 (boundCode bound) ++ enc1 listed
  | .withdrawn state cause => enc1 state.code ++ enc1 cause.code
  | .jobsListed n => enc1 n
  | .job position j products => encJob position j products
  | .jobDirectory lines => encList encJobLine lines
  | .toolSet n shares => enc1 n ++ encList enc2 shares
  | .rackAdded count state => enc1 count ++ enc1 state.code
  | .tool t => encTool t
  | .magazine state zones => enc1 state.code ++ encList (fun z => enc1 z.first ++ enc1 z.last ++ enc1 z.free) zones
  | .swapped state => enc1 state.code
  | .bay r => encBay r
  | .trayEmptied before w => enc1 before ++ encOpt encWait w
  | .causes mode pause stop => enc1 mode.code ++ encPause pause ++ encStops stop

/-- A position of a BAD FIELD reply, 0xFF for none (R203). -/
def encPlace (p : Option Nat) : List Byte := enc1 (p.getD 255)

/-- A reply's payload (R203). The free count of R6 stands behind what the result carries by R203 and R7. (DESIGN CHOICE, log
entry 42.) -/
def ReplyBody.payload : ReplyBody → List Byte
  | .refused r => enc1 r.code
  | .badField n board tab => enc1 Result.badField.code ++ enc1 n ++ encPlace board ++ encPlace tab
  | .refusedFree r free => enc1 r.code ++ enc2 free
  | .badFieldFree n board tab free => enc1 Result.badField.code ++ enc1 n ++ encPlace board ++ encPlace tab ++ enc2 free
  | .fullRoom asked room free => enc1 Result.full.code ++ enc1 asked ++ enc2 room ++ enc2 free
  | .ok b => enc1 Result.ok.code ++ b.payload

/-! ## Frames (R201) -/

/-- A frame of a kind, tag and payload: the start byte, the covered bytes, and the check, high byte first (R201). -/
def frameBytes (kind tag : Byte) (payload : List Byte) : List Byte :=
  let covered := kind :: tag :: enc2 payload.length ++ payload
  let check := crc16 covered
  0xC3#8 :: covered ++ [check.extractLsb' 8 8, check.extractLsb' 0 8]

/-- The bytes of a frame the transmitter sends (R201, R204). -/
def TxFrame.bytes : TxFrame → List Byte
  | .reply r => frameBytes r.kind r.tag r.body.payload
  | .report r => frameBytes r.kind 0#8 r.payload

/-- The bytes on the line: those of the frame being sent, none while the transmitter is idle (R204). -/
def State.wire (s : State) : List Byte :=
  match s.link.sending with
  | some f => f.bytes
  | none => []

end Sys2Proof.Machine
end

