-- ==== Sys2Proof/Safety.lean ====
section
/-! DEFINITION. The terms in which statements about the machine are made: what the controller has yet to send, the effect of a
command on everything else, and the properties a run keeps. -/

namespace Sys2Proof.Machine

/-! ## What is on its way out -/

/-- Every frame the controller has still to send, in the order in which it sends them if nothing more is queued: the frame being
sent, the waiting reply, the queued reports (R204). -/
def State.outgoing (s : State) : List TxFrame :=
  s.link.sending.toList ++ (s.link.slot.map TxFrame.reply).toList ++ s.link.txQueue.map TxFrame.report

/-- The state with its outgoing side left out: the frames of `outgoing`, the reports-lost mark and the step's output. -/
def State.settled (s : State) : State :=
  { s with
    link := { s.link with slot := none, sending := none, txQueue := [], reportsLost := false }
    out := emptyOutput }

/-- The reports of a list that a mask lets through, as frames (R205). -/
def keptReports (m : Mask) (l : List Report) : List TxFrame := (l.filter fun r => m.get r.cls).map TxFrame.report

/-- A command that is no request has an effect: it answers a next state that is `after` but for the outgoing side, it puts the
messages `sent` on the drive link, and, while the transmit queue has room for them, the reports join what is on its way out,
in their order, and none is lost. -/
def Effect (c : Instr) (s after : State) (reports : List Report) (sent : List DriveMsg) : Prop :=
  ∃ t, exec c s = .next t ∧ t.settled = after.settled ∧ t.out = { emptyOutput with sent := sent } ∧
    (s.link.txQueue.length + reports.length ≤ Config.transmitLimit →
      t.outgoing = s.outgoing ++ keptReports s.link.mask reports ∧ t.link.reportsLost = s.link.reportsLost)

/-- The frame `f` stands at the head of the receive queue, `rest` behind it, and may be taken (R203). -/
abbrev Takes (s : State) (f : Frame) (rest : List Frame) : Prop := s.link.rxQueue = f :: rest ∧ s.link.canTake = true

/-- A request has an effect and is answered: as `Effect`, the reply going ahead of every queued report (R204). -/
def Answers (c : Instr) (s : State) (f : Frame) (body : ReplyBody) (after : State) (reports : List Report)
    (sent : List DriveMsg) : Prop :=
  ∃ t, exec c s = .next t ∧ t.settled = after.settled ∧ t.out = { emptyOutput with sent := sent } ∧
    (s.link.txQueue.length + reports.length ≤ Config.transmitLimit →
      t.outgoing =
          s.link.sending.toList ++ [TxFrame.reply (replyTo f body)] ++ s.link.txQueue.map TxFrame.report ++
            keptReports s.link.mask reports ∧
        t.link.reportsLost = s.link.reportsLost)

/-- A request of a kind with a payload stands at the head of the receive queue and may be taken. -/
abbrev Asks (s : State) (f : Frame) (rest : List Frame) (kind : Byte) (payload : List Byte) : Prop :=
  Takes s f rest ∧ f.kind = kind ∧ f.payload = payload

/-- A listed job, named by its place between the jobs before it and behind it, no other job listed having its tag (R18). -/
abbrev Lists (s : State) (before : List Job) (j : Job) (after : List Job) : Prop :=
  s.jobs = before ++ j :: after ∧ (∀ k ∈ before, k.tag ≠ j.tag) ∧ ∀ k ∈ after, k.tag ≠ j.tag

/-- No pick motion and no latch motion is held back for an entry into RUN or PAUSED (R191). -/
def NothingHeld (s : State) : Prop := (∀ k, s.pick.motion ≠ .held k) ∧ ∀ b, (s.bayRec b).latch ≠ .held

/-- The state with a mode record, the line-hold outputs set by it (R197). -/
def State.withMode (s : State) (m : ModeRec) : State := s.updMode fun _ => drivenLines m

/-- The state after one more request to a group has been numbered (R1). -/
def State.numbered (g : Group) (s : State) : State := s.updDrive fun d => d.set g (d.get g + 1)

/-- The state after one more request to each group has been numbered (R1). -/
def State.numberedAll (s : State) : State := ((((s.numbered .spindle).numbered .pick).numbered .shuttle).numbered .bay)

/-- One request to each group, in the order of the groups. -/
def toEach (s : State) (what : DriveReq) : List DriveMsg := groups.map fun g => .request g (nextReq g s) what

/-- The next number of each group, as a request in flight on each. -/
def nextOfEach (s : State) : PerGroup (Option ReqNo) :=
  { spindle := some s.drive.spindle, pick := some s.drive.pick, shuttle := some s.drive.shuttle, bay := some s.drive.bay }

/-- R195: a group that has no motion in flight is yet to be sent its park motion. -/
def State.parkDue (s : State) (g : Group) : Bool :=
  !groupBusy s g && (s.mode.parkReq.get g).isNone && !s.mode.parkDone.get g

/-- R195: the state with the park motion of every group that waits for it requested. -/
def State.parksRequested (s : State) : State :=
  groups.foldl (fun u g =>
    if s.parkDue g then
      (u.updMode fun m => { m with parkReq := m.parkReq.set g (some (nextReq g s)) }).numbered g
    else u) s

/-- R195: the park motions that are requested. -/
def State.parksSent (s : State) : List DriveMsg := (groups.filter s.parkDue).map fun g => .request g (nextReq g s) .park

/-- The head's record with a motion called for in a mode (R129): in flight with the group's next number, or held. -/
def PickRec.called (p : PickRec) (kind : MotionKind) (s : State) : PickRec :=
  { p with motion := if kind.startsIn s.mode.mode then .inFlight kind s.drive.pick else .held kind }

/-- The request of a motion called for, if it is sent (R129). -/
def motionSent (kind : MotionKind) (what : DriveReq) (s : State) : List DriveMsg :=
  if kind.startsIn s.mode.mode then [.request .pick s.drive.pick what] else []

/-- The state with the head's record `p` and a motion called for. -/
def State.headed (s : State) (p : PickRec) (kind : MotionKind) : State :=
  let u := s.updPick fun _ => p.called kind s
  if kind.startsIn s.mode.mode then u.numbered .pick else u

/-! ## A fixed pass that waits for a bit (R69) -/

/-- R69, R66: in TOOL WAIT the fixed pass is to be made: its tab is PENDING and its board CUTTING, or HELD and held with vacuum
made. `held` is the mark of a held tab. -/
abbrev AwaitsBit (s : State) (x : FixedPass) (held : Bool) (t : TabRec) (recipe : Recipe) (te : TabEntry) : Prop :=
  s.seq.state = .toolWait ∧ s.seq.job ≠ 0 ∧ s.seq.pass = none ∧ s.withdrawing s.seq.job = false ∧ s.seq.fixed = some x ∧
    s.tab? s.seq.job x.board x.ring = some t ∧ t.state = .pending ∧ s.jobRecipe? s.seq.job = some recipe ∧
    s.tabEntry? s.seq.job x.board x.ring = some te ∧
    ((held = false ∧ s.boardState s.seq.job x.board = some .cutting) ∨
      (held = true ∧ s.boardState s.seq.job x.board = some .held ∧ s.holdsBoard s.seq.job x.board = true))

/-- R86 to R94: the grant of a tab's pass `p` from the first segment of a bit just fitted. -/
def firstGrant (d : BitDesc) (n : Nat) (recipe : Recipe) (w p : Nat) : Grant :=
  let len := w + d.d + 2 * recipe.o
  let feed := effectiveFeed recipe.f 0 n
  let z := recipe.t + recipe.b + (p - 1) * 10
  { k := 0, depth := min z recipe.zc, clamped := recipe.zc < z, pathLen := len, feed := feed, time := passTime len feed,
    watch := watchPeriod (passTime len feed), debit := ceilDiv (len * recipe.t) 10000 }

/-- R92: the record of a bit whose first segment has been charged for one pass. -/
def ToolRec.charged1 (t : ToolRec) (debit : Nat) : ToolRec :=
  { t with segs := t.segs.modify 0 fun g => { g with used := g.used + debit }, charged := 1 }

/-- R70, R132: the state with the fixed pass requested, the held-pass mark set for a held tab. -/
def State.fixedRequested (s : State) (x : FixedPass) (held : Bool) (p : Nat) (g : Grant) : State :=
  let pos := (s.positions s.seq.job x.board)[x.ring]?.getD (0, 0)
  ((((s.updTab s.seq.job x.board x.ring fun t => { t with clamped := t.clamped || g.clamped }).updSeq fun q =>
    { q with
      posX := pos.1, posY := pos.2, state := .pass, fixed := none
      pass := some { job := q.job, board := x.board, ring := x.ring, held := held, p := p, grant := g, req := s.drive.spindle }
      }).updPick fun k => { k with heldPass := k.heldPass || held }).numbered .spindle)

/-- R70: the request of a fixed pass. -/
def fixedSent (s : State) (x : FixedPass) (dir : Axis) (g : Grant) : List DriveMsg :=
  let pos := (s.positions s.seq.job x.board)[x.ring]?.getD (0, 0)
  [.request .spindle s.drive.spindle (.pass pos.1 pos.2 dir g.pathLen g.depth g.feed)]

/-! ## Flags and link errors -/

/-- The state with a flag set (R206). -/
def State.flagged (x : Flag) (s : State) : State := s.updLink fun l => { l with flags := l.flags.raise x }

/-- What the raising of a flag queues: FLAG RAISED with the flag set after it, nothing where the flag stood (R206). -/
def State.raising (x : Flag) (s : State) : List Report :=
  if s.link.flags.get x then [] else [.flagRaised x (s.flagged x).link.flags]

/-- The state after a link error: the count has risen, saturating at 65535, and LINK ERROR is set (R202). -/
def State.linkErred (s : State) : State :=
  (s.updLink fun l => { l with linkErrors := min 65535 (l.linkErrors + 1) }).flagged .linkError

/-! ## Stops (R192) -/

/-- The four halts of a stop, each with its group's next number (R192, R1). -/
def halts (s : State) : List DriveMsg := toEach s .halt

/-- R55: a shuttle's move in flight is interrupted. -/
def ShuttleRec.stopped (r : ShuttleRec) : ShuttleRec :=
  match r.state with
  | .movingIn | .movingOut => { r with interrupted := true, moveReq := none }
  | _ => r

/-- R141: a motion in flight becomes held with its kind, and both watches stop; vacuum demand and placement awaited stand. -/
def PickRec.stopped (p : PickRec) : PickRec :=
  { p with
    motion := match p.motion with
      | .inFlight kind _ => .held kind
      | m => m
    vacWatch := false, placeWatch := false }

/-- R124: a tool change in MOVING becomes HALTED, its attempts kept. -/
def ToolRec.stopped (t : ToolRec) : ToolRec :=
  { t with
    op := t.op.map fun op => match op.phase with
      | .moving => { op with phase := .halted, req := none }
      | _ => op }

/-- R178: a latch motion in flight becomes held. -/
def BayRec.stopped (r : BayRec) : BayRec :=
  { r with
    latch := match r.latch with
      | .inFlight _ => .held
      | l => l }

/-- R192: with homing or park motion in progress both are abandoned; either way the mode becomes STOPPED. (DEDUCED, log entry
10.) -/
def ModeRec.stopped (m : ModeRec) : ModeRec :=
  match m.mode with
  | .homing | .parking =>
    { m with
      mode := .stopped, referenced := State.noGroups, parkDone := State.noGroups, refReq := PerGroup.const none,
      parkReq := PerGroup.const none }
  | _ => { m with mode := .stopped }

/-- R192, steps 1 and 2, but for a pass in flight: each group's halt has taken a number and is in flight; everything else in flight is held, halted or interrupted, and the mode record, with
the stop's cause in it, becomes that of a stopped cell. -/
def State.stoppedWith (s : State) (m : ModeRec) : State :=
  (((((s.updShut fun c => { c with a := c.a.stopped, b := c.b.stopped }).updPick PickRec.stopped).updTool ToolRec.stopped).updBay
    fun c => { c with bays := c.bays.map BayRec.stopped }).withMode { m.stopped with haltReq := nextOfEach s }).numberedAll

/-- R124, R126: the report of a tool change that a stop halts. -/
def State.haltReport (s : State) : List Report :=
  if s.changerMoving then [.toolState (toolReportOf .halted s.tool.stopped)] else []

/-- R73, R141: the pass in flight is interrupted: its tab is marked, it is fixed to be made again, and the held-pass mark is
cleared. -/
def State.passStopped (s : State) (r : PassRec) : State :=
  ((s.updTab r.job r.board r.ring fun t => { t with interrupted := true }).updSeq fun q =>
    { q with pass := none, state := .ready, fixed := some { board := r.board, ring := r.ring, reason := .resume } }).updPick
    fun p => { p with heldPass := false }

/-- R111, R113: TAB DONE of an interrupted pass on a tab of a board. -/
def interruptedReport (r : PassRec) (cause : StopCause) (b : BoardRec) (t : TabRec) : Report :=
  .tabDone
    { job := r.job, board := r.board, ring := r.ring, held := r.held, p := r.p, k := r.grant.k, depth := r.grant.depth,
      clamped := r.grant.clamped, ending := .interrupted, overrun := false, stopCause := some cause, decision := .none,
      tab := { t with interrupted := true }, damage := b.damage }

/-- A pass is in flight on a tab of a listed job that no withdrawal concerns, and on a held tab the hold is not lost. -/
abbrev Cuts (s : State) (r : PassRec) (j : Job) (b : BoardRec) (t : TabRec) : Prop :=
  s.seq.pass = some r ∧ s.job? r.job = some j ∧ j.cause = .none ∧ s.board? r.job r.board = some b ∧
    s.tab? r.job r.board r.ring = some t ∧ (s.pick.heldPass = true → s.pick.holdLost = false)

/-! ## Requests -/

/-- The row of the table that a frame is a request of (12_the_message_link.md, Request kinds; R12, R39). -/
def rowOf (f : Frame) : Instr :=
  if f.kind = 0x01#8 then .getStatus else if f.kind = 0x02#8 then .configure else if f.kind = 0x03#8 then .setCellTag
  else if f.kind = 0x04#8 then .setReports else if f.kind = 0x05#8 then .ackFlags
  else if f.kind = 0x10#8 then .loadRecipe else if f.kind = 0x11#8 then .dropRecipe
  else if f.kind = 0x12#8 then (if f.payload = [0#8] then .getRecipeDirectory else .getRecipe)
  else if f.kind = 0x18#8 then .setClaim else if f.kind = 0x19#8 then .getClaims
  else if f.kind = 0x20#8 then .announcePanel else if f.kind = 0x21#8 then .withdrawPanel
  else if f.kind = 0x22#8 then (if f.payload = [0#8, 0#8] then .getJobDirectory else .getJob)
  else if f.kind = 0x23#8 then .releaseJob else if f.kind = 0x30#8 then .setTool else if f.kind = 0x31#8 then .rackBit
  else if f.kind = 0x32#8 then .getTool else if f.kind = 0x38#8 then .acceptMagazine
  else if f.kind = 0x39#8 then .swapBay else if f.kind = 0x3A#8 then .getBay else if f.kind = 0x3B#8 then .emptyTray
  else if f.kind = 0x40#8 then .pause else if f.kind = 0x41#8 then .resume else if f.kind = 0x42#8 then .park
  else if f.kind = 0x43#8 then .wake else if f.kind = 0x4E#8 then .resetEnable else if f.kind = 0x4F#8 then .cellReset
  else .unknownKind

/-- The place behind a list or a text that starts at a place of a payload: a count byte, then that many bytes. -/
def behindList (p : List Byte) (i : Nat) : Nat := i + 1 + (p.getD i 0#8).toNat

/-- The place behind board entries that start at a place of a LOAD RECIPE: each holds its tab count in its eighth byte, and each
tab takes 7 bytes. -/
def behindBoards (p : List Byte) : Nat → Nat → Nat
  | 0, i => i
  | n + 1, i => behindBoards p n (i + 8 + 7 * (p.getD (i + 7) 0#8).toNat)

/-- The length that a request's kind, counts and presence byte require of its payload (R203, step 3, and the layouts). Where
the payload ends before a byte that the length depends on, the length lies beyond its end. -/
def requiredLength (kind : Byte) (p : List Byte) : Nat :=
  if kind ∈ [0x11#8, 0x12#8, 0x39#8, 0x3A#8] then 1
  else if kind ∈ [0x21#8, 0x22#8, 0x23#8] then 2
  else if kind ∈ [0x18#8, 0x30#8, 0x31#8] then 9
  else if kind = 0x02#8 then 10
  else if kind ∈ [0x03#8, 0x04#8, 0x05#8] then behindList p 0
  else if kind = 0x10#8 then behindBoards p (p.getD 17 0#8).toNat 18
  else if kind = 0x20#8 then
    let presence := p.getD 2 0#8
    let i := if presence.getLsbD 0 then 7 else 6
    let i := if presence.getLsbD 1 then behindList p i else i
    if presence.getLsbD 2 then behindList p i else i
  else if kind = 0x38#8 then
    let i := behindList p (behindList p 2 + 3)
    if (p.getD 1 0#8).getLsbD 0 then behindList p i else i
  else 0

/-- The presence byte of an announce or magazine record has a bit set that its layout does not define (R203, step 3). -/
abbrev badPresence (f : Frame) : Prop :=
  (f.kind = 0x20#8 ∧ 8 ≤ (f.payload.getD 2 0#8).toNat) ∨ (f.kind = 0x38#8 ∧ 2 ≤ (f.payload.getD 1 0#8).toNat)

/-- The payload of ANNOUNCE PANEL (announce record). -/
def encAnnounce (a : RawAnnounce) : List Byte :=
  let bit := fun (b : Bool) (n : Nat) => if b then n else 0
  enc2 a.tag ++ enc1 (bit a.recipe.isSome 1 + bit a.xouts.isSome 2 + bit a.panelId.isSome 4) ++
    (a.recipe.map enc1).getD [] ++ enc1 a.repeatMark ++ enc1 a.orientation ++ enc1 a.pref ++
    (a.xouts.map (encList enc1)).getD [] ++ (a.panelId.map encText).getD []

/-- Every field of an announce record fits its bytes. -/
abbrev RawAnnounce.fitsBytes (a : RawAnnounce) : Prop :=
  a.tag ≤ 65535 ∧ (∀ n, a.recipe = some n → n ≤ 255) ∧ a.repeatMark ≤ 255 ∧ a.orientation ≤ 255 ∧ a.pref ≤ 255 ∧
    (∀ l, a.xouts = some l → l.length ≤ 255 ∧ ∀ x ∈ l, x ≤ 255) ∧ ∀ t, a.panelId = some t → t.length ≤ 255

/-- R30, step 1: an admission leaves the jobs `kept` listed and evicts the jobs `gone`: none while fewer than 8 are listed, and
else the oldest final one. -/
abbrev Evicts (s : State) (kept gone : List Job) : Prop :=
  (s.jobs.length < 8 ∧ kept = s.jobs ∧ gone = []) ∨
    (8 ≤ s.jobs.length ∧ ∃ before e after, Lists s before e after ∧ (∀ k ∈ before, k.live = true) ∧ e.live = false ∧
      kept = before ++ after ∧ gone = [e])

/-- R52: no shuttle at the cut area, moving out or at the window stays bound to a job that leaves the list. -/
def ShuttleCtl.freed (c : ShuttleCtl) (gone : List Job) : ShuttleCtl :=
  let free := fun (r : ShuttleRec) =>
    if gone.any (fun e => e.tag == r.bound) ∧ (r.state = .atCut ∨ r.state = .movingOut ∨ r.state = .atWindow) then
      { r with bound := 0 }
    else r
  { c with a := free c.a, b := free c.b }

/-- JOB STATE of a job with a leave cause (R40). -/
def jobLeft (leave : LeaveListCause) (j : Job) : Report :=
  .jobState
    { tag := j.tag, panelId := j.panelId, state := j.state, cause := j.cause, bound := j.bound, leave := leave,
      summary := j.summary }

/-! ## Ranges -/

/-- R83: the ranges of a bit descriptor. -/
abbrev BitDesc.inRange (d : BitDesc) : Prop :=
  (80 ≤ d.d ∧ d.d ≤ 300) ∧ (200 ≤ d.u ∧ d.u ≤ 1500) ∧ (50 ≤ d.s ∧ d.s ≤ 300) ∧ (1 ≤ d.nreq ∧ d.nreq ≤ 8) ∧
    (100 ≤ d.lb ∧ d.lb ≤ 60000)

/-- R4, R5: a tab entry of a board whose origin is given. -/
abbrev TabEntry.inRange (pw ph ox oy : Nat) (t : TabEntry) : Prop :=
  (30 ≤ t.w ∧ t.w ≤ 500) ∧ ox + t.tx ≤ pw ∧ oy + t.ty ≤ ph

/-- R4, R5: a board entry at a position. -/
abbrev BoardEntry.inRange (pw ph position : Nat) (b : BoardEntry) : Prop :=
  b.index = position ∧ (1 ≤ b.product ∧ b.product ≤ 4095) ∧ b.ox ≤ pw ∧ b.oy ≤ ph ∧
    (1 ≤ b.tabs.length ∧ b.tabs.length ≤ 12) ∧ ∀ t ∈ b.tabs, t.inRange pw ph b.ox b.oy

/-- R3 to R6: a recipe record within its ranges. -/
abbrev Recipe.inRange (r : Recipe) : Prop :=
  (1 ≤ r.number ∧ r.number ≤ 32) ∧ (1000 ≤ r.pw ∧ r.pw ≤ 35000) ∧ (1000 ≤ r.ph ∧ r.ph ≤ 35000) ∧ (40 ≤ r.t ∧ r.t ≤ 320) ∧
    (40 ≤ r.hc ∧ r.hc ≤ 2500) ∧ (1 ≤ r.f ∧ r.f ≤ 100) ∧ r.o ≤ 50 ∧ r.b ≤ 100 ∧ (100 ≤ r.zc ∧ r.zc ≤ 1500) ∧
    (1 ≤ r.passLimit ∧ r.passLimit ≤ 3) ∧ (1 ≤ r.boards.length ∧ r.boards.length ≤ 24) ∧
    (∀ i : Fin r.boards.length, r.boards[i].inRange r.pw r.ph i.val) ∧ r.tabs ≤ 160

/-! ## Properties that a run keeps -/

/-- R2, R6: the places are numbered 1 to 32, each held once and listed in ascending number, and the free count is 2048 less the
entries held by all stored recipes. -/
abbrev StoreOk (s : State) : Prop :=
  s.store.recipes.Pairwise (fun a b => a.number < b.number) ∧ (∀ r ∈ s.store.recipes, 1 ≤ r.number ∧ r.number ≤ 32) ∧
    s.store.free + total (s.store.recipes.map Recipe.tabs) = 2048

/-- R202, R205: the receive queue holds 0 to 4 frames, the transmit queue 0 to 32 reports, and the link-error count does not pass
65535. -/
abbrev QueuesOk (s : State) : Prop :=
  s.link.rxQueue.length ≤ 4 ∧ s.link.txQueue.length ≤ 32 ∧ s.link.linkErrors ≤ 65535

/-- R18: the list never holds more than 8 jobs, and no two listed jobs have the same tag. -/
abbrev JobListOk (s : State) : Prop := s.jobs.length ≤ 8 ∧ (s.jobs.map (·.tag)).Nodup

/-- R85: the wear used in each segment never exceeds its share, and the shares add exactly to the bit life; with no bit there is
no segment. -/
def WearOk (s : State) : Prop :=
  (∀ g ∈ s.tool.segs, g.used ≤ g.share) ∧
    match s.tool.desc with
    | some d => total (s.tool.segs.map (·.share)) = d.lb
    | none => s.tool.segs = []

/-- R116: the rack holds 0 to 6 entries, and the attempts do not pass 255. -/
abbrev RackOk (s : State) : Prop := s.tool.rack.length ≤ 6 ∧ ∀ op, s.tool.op = some op → op.attempts ≤ 255

/-- R185: the use of each line-hold line is UNUSED or its strapped direction. -/
abbrev LinesOk (m : ModeRec) : Prop :=
  (m.options.upUse = .unused ∨ m.options.upUse = State.strapUse m.straps.upline) ∧
    (m.options.downUse = .unused ∨ m.options.downUse = State.strapUse m.straps.downline)

/-- R185: the options lie within what the straps fit. -/
def Options.fits (o : Options) (st : Straps) : Prop :=
  (st.bays = .two → o.enables[2] = false ∧ o.enables[3] = false) ∧ (o.tray = true → st.tray = true) ∧
    (o.changer = true → st.changer = true) ∧ (o.upUse = .unused ∨ o.upUse = State.strapUse st.upline) ∧
    (o.downUse = .unused ∨ o.downUse = State.strapUse st.downline)

/-- R182, R185: while the mode is STOPPED the stop-cause set holds a cause, and only then; while it is PAUSED the pause-cause set
holds one, and in RUN none; groups are faulted only while DRIVE FAULT is a stop cause; the lines' uses fit the straps. -/
abbrev ModeOk (s : State) : Prop :=
  (s.mode.mode = .stopped → s.mode.stop.any = true) ∧ (s.mode.mode = .paused → s.mode.pause.any = true) ∧
    (s.mode.mode = .run → s.mode.pause.any = false) ∧ (s.mode.mode ≠ .stopped → s.mode.stop.any = false) ∧
    (s.mode.faulted ≠ State.noGroups → s.mode.stop.driveFault = true) ∧ LinesOk s.mode

end Sys2Proof.Machine
end

