-- ==== Sys2Proof/Certificates/Slice0/Obligations.lean ====
section
/-! DEFINITION. The statements for the provers. Throughout, a request row takes the head of the receive queue (log entry 6), a
command that is not applied changes nothing of the part (entry 7), what a command sends stands in the model's own record of
output (entry 4), and reports take the order of entry 14. -/

open Sys2Proof Sys2Proof.Machine

/-! ## The machine as a whole -/

/-- A step takes the command at the front of the queue and runs it on the state with the queue's rest; on an empty queue the
block idles (the model's choice, log entry 5). -/
def Obligations.StepRunsFrontCommand : Prop :=
  (∀ (c : Instr) (rest : List Instr) (s : State), s.pending = c :: rest → step s = exec c { s with pending := rest }) ∧
    ∀ s : State, s.pending = [] → step s = .next s

/-- Every command is answered with a next state, whatever the state, and leaves the queue of waiting commands alone. Model's
choices: log entries 6, 7. -/
def Obligations.EveryCommandCompletes : Prop :=
  ∀ (c : Instr) (s : State), ∃ t, exec c s = .next t ∧ t.pending = s.pending

/-- R2, R6: every step keeps the Recipe Store's places and the exact count of the tab pool. -/
def Obligations.StepKeepsStore : Prop :=
  ∀ s t : State, StoreOk s → step s = .next t → StoreOk t

/-- R202, R205: every step keeps the bounds of the link's queues and counts. -/
def Obligations.StepKeepsQueues : Prop :=
  ∀ s t : State, QueuesOk s → step s = .next t → QueuesOk t

/-- R18: every step keeps the Job List at 8 jobs or fewer with distinct tags. -/
def Obligations.StepKeepsJobList : Prop :=
  ∀ s t : State, JobListOk s → step s = .next t → JobListOk t

/-- R85: every step keeps each segment's used wear within its share and the shares equal to the bit life, so that for a known bit
used wear, forfeits and remaining wear give the bit life exactly. -/
def Obligations.StepKeepsWear : Prop :=
  ∀ s t : State, WearOk s → step s = .next t →
    WearOk t ∧ ∀ d, t.tool.desc = some d →
      usedTotal t.tool.segs + forfeitTotal t.tool.segs + remainingTotal t.tool.segs = d.lb

/-- R116: every step keeps the rack at 6 entries or fewer and the attempts at 255 or fewer. -/
def Obligations.StepKeepsRack : Prop :=
  ∀ s t : State, RackOk s → step s = .next t → RackOk t

/-- R182: every step keeps the cause sets in agreement with the mode. -/
def Obligations.StepKeepsMode : Prop :=
  ∀ s t : State, ModeOk s → step s = .next t → ModeOk t

/-- The reset state meets every property that the steps keep. Model's choices: log entry 2. -/
def Obligations.ResetMeetsInvariants : Prop :=
  StoreOk State.reset ∧ QueuesOk State.reset ∧ JobListOk State.reset ∧ WearOk State.reset ∧ RackOk State.reset ∧
    ModeOk State.reset

/-- R76, R194: whatever the command, a pass that is in flight after a step and was not before it was started in RUN. -/
def Obligations.PassStartsOnlyInRun : Prop :=
  ∀ (c : Instr) (s t : State), exec c s = .next t →
    t.seq.pass = s.seq.pass ∨ t.seq.pass = none ∨ t.mode.mode = .run

/-- R24: whatever the command, a board in a final state stays in it while its job is listed. -/
def Obligations.FinalBoardStays : Prop :=
  ∀ (c : Instr) (s t : State) (tag i : Nat) (st : BoardState), exec c s = .next t → s.boardState tag i = some st →
    st.final = true → (t.job? tag).isSome = true → t.boardState tag i = some st

/-! ## The message link -/

/-- R201, R202: the bytes of a frame, received in HUNTING, give back the frame: it joins the receive queue while that holds
fewer than 4, and is a link error otherwise. A frame whose check is not that of its bytes is a link error, however many
frames wait. -/
def Obligations.FrameRoundTrip : Prop :=
  ∀ (s : State) (kind tag : Byte) (payload : List Byte), s.link.rx = .hunting → tag ≠ 0#8 → payload.length ≤ 2048 →
    (s.link.rxQueue.length < 4 →
      Effect (.frameReceived (frameBytes kind tag payload)) s
        (s.updLink fun l => { l with rxQueue := l.rxQueue ++ [{ kind := kind, tag := tag, payload := payload }] }) [] []) ∧
    (4 ≤ s.link.rxQueue.length →
      Effect (.frameReceived (frameBytes kind tag payload)) s s.linkErred (s.raising .linkError) []) ∧
    ∀ hi lo : Byte,
      let covered := kind :: tag :: enc2 payload.length ++ payload
      hi ++ lo ≠ crc16 covered →
        Effect (.frameReceived (0xC3#8 :: covered ++ [hi, lo])) s s.linkErred (s.raising .linkError) []

/-- R202: a header with tag 0 or a length above 2048 abandons the frame: a link error, and the receiver is SKIPPING; a byte
that follows is skipped whatever its value. A gap inside a frame is a link error and makes the receiver HUNTING; a quiet gap
while SKIPPING makes it HUNTING; in any other receiver state neither changes anything. Model's choices: log entry 22. -/
def Obligations.ReceptionAbandoned : Prop :=
  (∀ (s : State) (kind tag l0 l1 : Byte), s.link.rx = .hunting → (tag = 0#8 ∨ 2048 < l0.toNat + 256 * l1.toNat) →
      Effect (.frameReceived [0xC3#8, kind, tag, l0, l1]) s (s.linkErred.updLink fun l => { l with rx := .skipping })
        (s.raising .linkError) []) ∧
    (∀ (s : State) (b : Byte), s.link.rx = .skipping → Effect (.frameReceived [b]) s s [] []) ∧
    (∀ (s : State) (got : List Byte), s.link.rx = .assembling got →
      Effect .frameGapTimeout s (s.linkErred.updLink fun l => { l with rx := .hunting }) (s.raising .linkError) []) ∧
    (∀ s : State, s.link.rx = .skipping →
      Effect .skipQuietGap s (s.updLink fun l => { l with rx := .hunting }) [] []) ∧
    (∀ s : State, s.link.rx ≠ .skipping → exec .skipQuietGap s = .next { s with out := emptyOutput }) ∧
    ∀ s : State, (∀ got, s.link.rx ≠ .assembling got) → exec .frameGapTimeout s = .next { s with out := emptyOutput }

/-- R204: at the end of a frame the waiting reply is begun, else the report at the head of the queue, else the transmitter
is idle; this holds too of a report that ends while the reply of an accepted CELL RESET waits. Behind that reply nothing is
begun (R198, R208). With nothing being sent the event is not applied. Model's choices: log entries 7, 13, 14. -/
def Obligations.FrameEndBeginsNext : Prop :=
  (∀ (s : State) (x : TxFrame), s.link.sending = some x →
    (s.link.reset = .none ∨ (s.link.reset = .replying ∧ ∃ r, x = .report r) →
      ∃ t, exec .frameSent s = .next t ∧ t.settled = s.settled ∧ t.out = emptyOutput ∧
        t.link.reportsLost = s.link.reportsLost ∧ x :: t.outgoing = s.outgoing ∧
        (t.link.sending = none → t.outgoing = [])) ∧
    (s.link.reset = .replying → (∃ r, x = .reply r) →
      exec .frameSent s =
        .next { s.updLink fun l => { l with sending := none, reset := .due } with out := emptyOutput })) ∧
  ∀ s : State, s.link.sending = none → exec .frameSent s = .next { s with out := emptyOutput }

/-- R203: each request taken is answered by exactly one reply with the frame's tag and the kind of R201, and leaves the
receive queue; R198: it clears the reset-enable mark, but for an accepted RESET ENABLE, which sets it. Model's choices: log
entry 6. -/
def Obligations.EveryRequestAnswered : Prop :=
  ∀ (s : State) (f : Frame) (rest : List Frame), Takes s f rest →
    ∃ (t : State) (b : ReplyBody), exec (rowOf f) s = .next t ∧ t.link.rxQueue = rest ∧
      (s.link.sending = none → t.link.sending = some (.reply (replyTo f b)) ∧ t.link.slot = none) ∧
      (∀ x, s.link.sending = some x → t.link.sending = some x ∧ t.link.slot = some (replyTo f b)) ∧
      t.link.resetEnable = decide (f.kind = 0x4E#8 ∧ f.payload = [] ∧ s.mode.mode ≠ .parked)

/-- R203, steps 1 to 3, and R196: a frame of a kind outside the request table is refused with UNKNOWN KIND in every mode; in
PARKED every request of the table but WAKE and GET STATUS is refused with PARKED. A presence byte with an undefined bit is
refused with BAD FIELD naming it, before the length; a payload whose length is not the one its fields require, with BAD
LENGTH. Each changes nothing. A refusal to one of the three recipe requests carries the free count (R6). Model's choices: log
entries 6, 42. -/
def Obligations.RequestsRefusedUnread : Prop :=
  ∀ (s : State) (f : Frame) (rest : List Frame), Takes s f rest →
    let refusal := fun (r : Result) =>
      if f.kind = 0x10#8 ∨ f.kind = 0x11#8 ∨ f.kind = 0x12#8 then ReplyBody.refusedFree r s.store.free else .refused r
    (f.kind ∉ requestKinds → Answers .unknownKind s f (.refused .unknownKind) (takeFrame rest s) [] []) ∧
    (f.kind ∈ requestKinds → s.mode.mode = .parked → f.kind ≠ 0x01#8 → f.kind ≠ 0x43#8 →
      Answers (rowOf f) s f (refusal .parked) (takeFrame rest s) [] []) ∧
    (f.kind ∈ requestKinds → s.mode.mode ≠ .parked ∨ f.kind = 0x01#8 ∨ f.kind = 0x43#8 →
      (badPresence f → Answers (rowOf f) s f (.badField 2 none none) (takeFrame rest s) [] []) ∧
      (¬ badPresence f → f.payload.length ≠ requiredLength f.kind f.payload →
        Answers (rowOf f) s f (refusal .badLength) (takeFrame rest s) [] []))

/-- R207: GET STATUS is answered in every mode with the records as they stand, and clears the reports-lost mark in the same
step. -/
def Obligations.StatusReadAndMarkCleared : Prop :=
  ∀ (s : State) (f : Frame) (rest : List Frame), Asks s f rest 0x01#8 [] →
    ∃ (t : State) (r : StatusReply), exec .getStatus s = .next t ∧ t.settled = (takeFrame rest s).settled ∧
      t.out = emptyOutput ∧ t.link.reportsLost = false ∧
      t.outgoing = s.link.sending.toList ++ [.reply (replyTo f (.ok (.status r)))] ++ s.link.txQueue.map TxFrame.report ∧
      r.mask = s.link.mask ∧ r.flags = s.link.flags ∧ r.linkErrors = s.link.linkErrors ∧
      r.reportsLost = s.link.reportsLost ∧ r.reports = s.link.txQueue.length ∧ r.frames = rest.length ∧
      r.mode = s.mode ∧ r.trayPolicy = s.route.trayPolicy ∧ r.shut = s.shut ∧ r.seq = s.seq ∧ r.pick = s.pick ∧
      ∀ q, s.pick.carried = some q → ∀ b, s.board? q.job q.board = some b → r.carriedDest = b.dest

/-- R205: SET REPORTS makes the mask exactly the set listed and removes the queued reports of the other classes; a number
outside 1 to 7 is refused and changes nothing. Model's choices: log entry 27. -/
def Obligations.ReportMaskReplaced : Prop :=
  ∀ (s : State) (f : Frame) (rest : List Frame) (l : List Byte), l.length ≤ 255 → s.mode.mode ≠ .parked →
    Asks s f rest 0x04#8 (BitVec.ofNat 8 l.length :: l) →
    ((∀ n ∈ l, 1 ≤ n.toNat ∧ n.toNat ≤ 7) →
      ∃ (t : State) (m : Mask), exec .setReports s = .next t ∧
        (∀ c : ReportClass, m.get c = true ↔ ∃ n ∈ l, n.toNat = c.number) ∧
        t.settled = ((takeFrame rest s).updLink fun k => { k with mask := m }).settled ∧
        t.out = emptyOutput ∧ t.link.reportsLost = s.link.reportsLost ∧
        t.outgoing = s.link.sending.toList ++ [.reply (replyTo f (.ok (.mask m)))] ++ keptReports m s.link.txQueue) ∧
    ∀ i : Fin l.length, ¬ (1 ≤ l[i].toNat ∧ l[i].toNat ≤ 7) → (∀ j : Fin l.length, j < i → 1 ≤ l[j].toNat ∧ l[j].toNat ≤ 7) →
      Answers .setReports s f (.badField 1 (some i.val) none) (takeFrame rest s) [] []

/-- R206: ACK FLAGS clears each flag listed and no other; a number outside 1 to 12 is refused and nothing is cleared.
Model's choices: log entry 27. -/
def Obligations.FlagsAcknowledged : Prop :=
  ∀ (s : State) (f : Frame) (rest : List Frame) (l : List Byte), l.length ≤ 255 → s.mode.mode ≠ .parked →
    Asks s f rest 0x05#8 (BitVec.ofNat 8 l.length :: l) →
    ((∀ n ∈ l, 1 ≤ n.toNat ∧ n.toNat ≤ 12) →
      ∃ k : FlagSet,
        (∀ x : Flag, k.get x = true ↔ s.link.flags.get x = true ∧ ¬ ∃ n ∈ l, n.toNat = x.number) ∧
        Answers .ackFlags s f (.ok (.flags k)) ((takeFrame rest s).updLink fun k' => { k' with flags := k }) [] []) ∧
    ∀ i : Fin l.length, ¬ (1 ≤ l[i].toNat ∧ l[i].toNat ≤ 12) →
      (∀ j : Fin l.length, j < i → 1 ≤ l[j].toNat ∧ l[j].toNat ≤ 12) →
      Answers .ackFlags s f (.badField 1 (some i.val) none) (takeFrame rest s) [] []

/-! ## The resets -/

/-- R198: RESET ENABLE sets the mark; CELL RESET with the mark set is answered OK and is due when its reply has been sent in
full; without the mark it is refused with SEQUENCE; either way the mark is clear afterwards. Model's choices: log entry 13.
-/
def Obligations.CellResetInTwoSteps : Prop :=
  (∀ (s : State) (f : Frame) (rest : List Frame), Asks s f rest 0x4E#8 [] → s.mode.mode ≠ .parked →
      Answers .resetEnable s f (.ok .empty) ((takeFrame rest s).updLink fun l => { l with resetEnable := true }) [] []) ∧
    (∀ (s : State) (f : Frame) (rest : List Frame), Asks s f rest 0x4F#8 [] → s.mode.mode ≠ .parked →
      (s.link.resetEnable = true →
        Answers .cellReset s f (.ok .empty) ((takeFrame rest s).updLink fun l => { l with reset := .replying }) [] []) ∧
      (s.link.resetEnable = false → Answers .cellReset s f (.refused .sequence) (takeFrame rest s) [] [])) ∧
    ∀ (s : State) (r : Reply), s.link.sending = some (.reply r) → s.link.reset = .replying →
      ∃ t, exec .frameSent s = .next t ∧ t.settled = (s.updLink fun l => { l with reset := .due }).settled ∧
        t.link.sending = none

/-- R199 and the reset rules of every block: what a CELL RESET leaves when it takes effect; not due, it is not applied. The
reports behind the CELL STATE are stated with auto-swap off. Model's choices: log entries 7, 13, 14, 19, 20, 21. -/
def Obligations.CellResetLeaves : Prop :=
  (∀ s : State, s.link.reset ≠ .due → exec .cellResetTakesEffect s = .next { s with out := emptyOutput }) ∧
  ∀ s : State, s.link.reset = .due →
    let line := fun (sh : Shuttle) => (s.shuttle sh).panelLine
    let stopped := s.mode.estopActive || s.mode.doorActive
    let mode : ModeRec :=
      { s.mode with
        mode := if stopped then .stopped else .homing, pause := { host := false, line := lineHeld s.mode }
        stop := { estop := s.mode.estopActive, door := s.mode.doorActive, driveFault := false, cutWatch := false }
        faulted := State.noGroups, homing := .full, referenced := State.noGroups, parkDone := State.noGroups
        locked := false, refReq := if stopped then PerGroup.const none else nextOfEach s, parkReq := PerGroup.const none
        haltReq := if stopped then nextOfEach s else PerGroup.const none }
    ∃ t, exec .cellResetTakesEffect s = .next t ∧
      t.store = { s.store with carried := 0 } ∧ t.jobs = [] ∧ t.seq = State.reset.seq ∧
      t.shut.holder = none ∧ t.shut.waitA = false ∧ t.shut.waitB = false ∧
      t.shut.seated = (if line .A then [.A] else []) ++ (if line .B then [.B] else []) ∧
      (∀ sh, t.shuttle sh =
        { state := if line sh then .unbound else .vacant, bound := 0, moveOutPending := false, interrupted := false,
          moveReq := none, panelLine := line sh }) ∧
      t.route = { s.route with wait := none, trayInProgress := false } ∧
      (let kept := s.pick.resetCarry || (s.pick.demand && (s.pick.head == .transfer || s.pick.head == .placing))
       t.pick = { State.reset.pick with demand := kept, resetCarry := kept }) ∧
      (∀ b : Bay, s.bayFitted b = true →
        let r := s.bayRec b
        (r.state = .empty ∨ r.state = .present → r.latch = .none →
          t.bayRec b = { r with state := if r.line then .present else .empty, awaited := none }) ∧
        (r.state = .online ∨ r.state = .draining → r.latch = .none →
          let kept :=
            { r with
              state := .online, slots := r.slots.map fun m => m.map resetSlot
              swap := .none, awaited := none }
          (s.mode.options.autoSwap = false ∨ (∃ x ∈ kept.map, x.state = .free) → t.bayRec b = kept) ∧
          (s.mode.options.autoSwap = true → (∀ x ∈ kept.map, x.state ≠ .free) →
            t.bayRec b = { kept with state := .released, swap := .auto, latch := .held })) ∧
        (r.state = .released → (t.bayRec b).state = .released ∧ (t.bayRec b).mag = r.mag ∧ (t.bayRec b).slots = r.slots ∧
          (t.bayRec b).swap = r.swap ∧ (t.bayRec b).awaited = none ∧
          ((t.bayRec b).latch = .done ↔ r.latch = .done) ∧ ∀ n, (t.bayRec b).latch ≠ .inFlight n)) ∧
      t.bay.trayAwaited = false ∧
      t.mode = { mode with upLevel := t.mode.upLevel, downLevel := t.mode.downLevel } ∧
      (LinesOk s.mode → t.mode = drivenLines mode) ∧
      t.out = { emptyOutput with sent := toEach s (if stopped then .halt else .reference .full) } ∧
      t.drive = s.numberedAll.drive ∧
      (s.tool.state ≠ .changing → t.tool = { s.tool with op := none }) ∧
      (s.tool.state = .changing → t.tool = { State.reset.tool with rack := s.tool.rack }) ∧
      t.link.rx = .hunting ∧ t.link.rxQueue = [] ∧ t.link.mask = State.resetMask ∧ t.link.flags = State.noFlags ∧
      t.link.linkErrors = 0 ∧ t.link.reportsLost = false ∧ t.link.resetEnable = false ∧ t.link.reset = .none ∧
      t.link.baud = s.link.baud ∧ t.link.slot = none ∧
      t.link.sending = some (.report (.cellState (cellReport .cellReset t))) ∧
      (s.mode.options.autoSwap = false →
        t.link.txQueue =
          (if s.tool.state = .changing then [.toolState (toolReportOf .reset t.tool)] else []) ++
            (allBays.filter fun b => s.bayFitted b && ((t.bayRec b).state != (s.bayRec b).state ||
              (t.bayRec b).slots != (s.bayRec b).slots)).map fun b => .bayState (bayReportOf b .reset (t.bayRec b)))

/-- R199 and the reset rules of every block: what the release of power-on reset leaves. Model's choices: log entries 2, 14,
20, 35. -/
def Obligations.PowerOnLeaves : Prop :=
  ∀ (s : State) (p : Pins),
    let line := fun (sh : Shuttle) => match sh with
      | .A => p.panelA
      | .B => p.panelB
    let stopped := p.estop || p.door
    let upline := p.straps.upline == .input && p.upline
    let downline := p.straps.downline == .input && p.downline
    ∃ t, exec (.powerOnReset p) s = .next t ∧
      t.store = { recipes := [], free := 2048, carried := 0 } ∧ t.jobs = [] ∧ t.seq = State.reset.seq ∧
      t.tool = State.reset.tool ∧ t.pick = State.reset.pick ∧ t.route = State.reset.route ∧
      (∀ sh, t.shuttle sh =
        { state := if line sh then .unbound else .vacant, bound := 0, moveOutPending := false, interrupted := false,
          moveReq := none, panelLine := line sh }) ∧
      t.shut.seated = (if p.panelA then [.A] else []) ++ (if p.panelB then [.B] else []) ∧
      t.shut.holder = none ∧ t.shut.waitA = false ∧ t.shut.waitB = false ∧
      (∀ b : Bay,
        let home := (p.straps.bays == .four || decide (b.val < 2)) && p.magazines[b]
        t.bayRec b =
          { state := if home then .present else .empty, mag := none, slots := none, swap := .none, latch := .none,
            awaited := none, stray := 0, line := home }) ∧
      t.bay.trayAwaited = false ∧
      t.mode = drivenLines
        { mode := if stopped then .stopped else .homing, pause := { host := false, line := upline || downline }
          stop := { estop := p.estop, door := p.door, driveFault := false, cutWatch := false }
          faulted := State.noGroups, homing := .full, referenced := State.noGroups, parkDone := State.noGroups
          straps := p.straps, options := State.strapOptions p.straps, locked := false, tag := none, upLevel := upline
          downLevel := downline, estopActive := p.estop, doorActive := p.door
          refReq := PerGroup.const (if stopped then none else some 0), parkReq := PerGroup.const none
          haltReq := PerGroup.const (if stopped then some 0 else none) } ∧
      t.drive = PerGroup.const 1 ∧
      t.out =
        { emptyOutput with
          sent := groups.map fun g => .request g 0 (if stopped then .halt else .reference .full) } ∧
      t.link.rx = .hunting ∧ t.link.rxQueue = [] ∧ t.link.mask = State.resetMask ∧ t.link.flags = State.noFlags ∧
      t.link.linkErrors = 0 ∧ t.link.reportsLost = false ∧ t.link.resetEnable = false ∧ t.link.reset = .none ∧
      t.link.baud = p.straps.baud ∧ t.link.slot = none ∧ t.link.txQueue = [] ∧
      t.link.sending = some (.report (.cellState (cellReport .powerOn t)))

/-! ## The Recipe Store -/

/-- R7, R8: a recipe within its ranges, sent as LOAD RECIPE lays it out, is read back field by field: refused with IN USE while
a live job refers to the stored one, with FULL beyond the room, and otherwise stored whole, the free count following. Every reply carries the free count (R6). -/
def Obligations.RecipeLoadedWhole : Prop :=
  ∀ (s : State) (f : Frame) (rest : List Frame) (r : Recipe), Asks s f rest 0x10#8 (encRecipe r) → r.inRange →
    s.mode.mode ≠ .parked → StoreOk s →
    (s.recipeInUse r.number = true → Answers .loadRecipe s f (.refusedFree .inUse s.store.free) (takeFrame rest s) [] []) ∧
    (s.recipeInUse r.number = false → s.store.free + s.store.held r.number < r.tabs →
      Answers .loadRecipe s f (.fullRoom r.tabs (s.store.free + s.store.held r.number) s.store.free) (takeFrame rest s) [] []) ∧
    (s.recipeInUse r.number = false → r.tabs ≤ s.store.free + s.store.held r.number →
      ∃ recipes : List Recipe, (∀ x, x ∈ recipes ↔ x = r ∨ (x ∈ s.store.recipes ∧ x.number ≠ r.number)) ∧
        Answers .loadRecipe s f (.ok (.freeCount (s.store.free + s.store.held r.number - r.tabs)))
          ((takeFrame rest s).updStore fun st =>
            { st with recipes := recipes, free := s.store.free + s.store.held r.number - r.tabs }) [] [])

/-- R10: DROP RECIPE refuses a number outside 1 to 32, an empty place and a recipe in use, in this order, and otherwise empties
the place and returns its pool entries; the carried number is kept. In PARKED it is refused. Every reply
carries the free count (R6); that the PARKED of R203 does: log entry 42. -/
def Obligations.RecipeDropped : Prop :=
  ∀ (s : State) (f : Frame) (rest : List Frame) (n : Byte), Asks s f rest 0x11#8 [n] →
    (s.mode.mode = .parked → Answers .dropRecipe s f (.refusedFree .parked s.store.free) (takeFrame rest s) [] []) ∧
    (s.mode.mode ≠ .parked → ¬ (1 ≤ n.toNat ∧ n.toNat ≤ 32) →
      Answers .dropRecipe s f (.badFieldFree 1 none none s.store.free) (takeFrame rest s) [] []) ∧
    (s.mode.mode ≠ .parked → 1 ≤ n.toNat → n.toNat ≤ 32 → (∀ r ∈ s.store.recipes, r.number ≠ n.toNat) →
      Answers .dropRecipe s f (.refusedFree .notFound s.store.free) (takeFrame rest s) [] []) ∧
    ∀ r, s.mode.mode ≠ .parked → 1 ≤ n.toNat → n.toNat ≤ 32 → s.store.find n.toNat = some r →
      (s.liveJobs n.toNat ≠ 0 → Answers .dropRecipe s f (.refusedFree .inUse s.store.free) (takeFrame rest s) [] []) ∧
      (s.liveJobs n.toNat = 0 →
        Answers .dropRecipe s f (.ok (.freeCount (s.store.free + r.tabs)))
          ((takeFrame rest s).updStore fun st =>
            { st with recipes := st.recipes.filter fun x => x.number ≠ n.toNat, free := s.store.free + r.tabs }) [] [])

/-- R11, R12: GET RECIPE reads one recipe, or for number 0 the directory, with the store summary, and changes no state; in PARKED
it is refused. The directory's tab totals and the free count add to 2048. Every reply carries the free count (R6); that the
PARKED of R203 does: log entry 42. -/
def Obligations.RecipesRead : Prop :=
  ∀ (s : State) (f : Frame) (rest : List Frame) (n : Byte), Asks s f rest 0x12#8 [n] →
    (s.mode.mode = .parked →
      Answers (if n.toNat = 0 then .getRecipeDirectory else .getRecipe) s f (.refusedFree .parked s.store.free) (takeFrame rest s) [] []) ∧
    (s.mode.mode ≠ .parked →
      (∀ r, n.toNat ≠ 0 → n.toNat ≤ 32 → s.store.find n.toNat = some r →
        Answers .getRecipe s f (.ok (.recipe r s.store.free s.store.carried (s.liveJobs n.toNat))) (takeFrame rest s)
          [] []) ∧
      (n.toNat ≠ 0 → n.toNat ≤ 32 → (∀ r ∈ s.store.recipes, r.number ≠ n.toNat) →
        Answers .getRecipe s f (.refusedFree .notFound s.store.free) (takeFrame rest s) [] []) ∧
      (32 < n.toNat → Answers .getRecipe s f (.badFieldFree 1 none none s.store.free) (takeFrame rest s) [] []) ∧
      (n.toNat = 0 →
        ∃ lines : List RecipeLine, lines.map (·.number) = s.store.recipes.map (·.number) ∧
          lines.map (·.tabs) = s.store.recipes.map Recipe.tabs ∧
          lines.map (·.boards) = s.store.recipes.map (fun r => r.boards.length) ∧
          lines.map (·.live) = s.store.recipes.map (fun r => s.liveJobs r.number) ∧
          (StoreOk s → (lines.map (·.number)).Pairwise (· < ·) ∧ total (lines.map (·.tabs)) + s.store.free = 2048) ∧
          Answers .getRecipeDirectory s f (.ok (.recipeDirectory lines s.store.free s.store.carried))
            (takeFrame rest s) [] []))

/-! ## The Job List -/

/-- R28 to R30, R46: ANNOUNCE PANEL is refused by the first field of its record that is out of range, for a tag in use, for a
recipe not found or missing, for a bad X-out index and with 8 live jobs. Otherwise, with the oldest final job evicted from a
full list (R52), the job is appended in ANNOUNCED, the carried recipe set and the configuration locked; the first UNBOUND
shuttle in seated order that its preference allows is bound to it. Model's choices: log entries 14, 27, 38; a text of any
bytes is taken (entry 32). -/
def Obligations.PanelAnnounced : Prop :=
  ∀ (s : State) (f : Frame) (rest : List Frame) (a : RawAnnounce), Asks s f rest 0x20#8 (encAnnounce a) →
    s.mode.mode ≠ .parked → a.fitsBytes →
    let u := takeFrame rest s
    let bad := fun (n : Nat) (place : Option Nat) => Answers .announcePanel s f (.badField n place none) u [] []
    let recipeOk := ∀ n, a.recipe = some n → 1 ≤ n ∧ n ≤ 32
    let xoutsOk := ∀ l, a.xouts = some l → l.length ≤ 24
    let idOk := ∀ t, a.panelId = some t → 1 ≤ t.length ∧ t.length ≤ 24
    (a.tag = 0 → bad 1 none) ∧ (1 ≤ a.tag → ¬ recipeOk → bad 3 none) ∧
    (1 ≤ a.tag → recipeOk → 1 < a.repeatMark → bad 4 none) ∧
    (1 ≤ a.tag → recipeOk → a.repeatMark ≤ 1 → 3 < a.orientation → bad 5 none) ∧
    (1 ≤ a.tag → recipeOk → a.repeatMark ≤ 1 → a.orientation ≤ 3 →
      (2 < a.pref → bad 6 none) ∧ (a.pref ≤ 2 → ¬ xoutsOk → bad 7 none) ∧ (a.pref ≤ 2 → xoutsOk → ¬ idOk → bad 8 none) ∧
      (a.pref ≤ 2 → xoutsOk → idOk → (∃ j ∈ s.jobs, j.tag = a.tag) →
        Answers .announcePanel s f (.refused .inUse) u [] []) ∧
      (a.pref ≤ 2 → xoutsOk → idOk → (∀ j ∈ s.jobs, j.tag ≠ a.tag) →
        (∀ n, a.recipe = some n → (∀ r ∈ s.store.recipes, r.number ≠ n) →
          Answers .announcePanel s f (.refused .notFound) u [] []) ∧
        (a.recipe = none → s.store.carried = 0 ∨ (∀ r ∈ s.store.recipes, r.number ≠ s.store.carried) →
          Answers .announcePanel s f (.refused .missingRecipe) u [] []) ∧
        ∀ (n : Nat) (r : Recipe), a.recipe = some n ∨ (a.recipe = none ∧ s.store.carried = n ∧ n ≠ 0) →
          s.store.find n = some r →
          let xs := a.xouts.getD []
          let wrong := fun (i : Fin xs.length) => r.boards.length ≤ xs[i] ∨ xs[i] ∈ xs.take i.val
          (∀ i, wrong i → (∀ k, k < i → ¬ wrong k) → bad 7 (some i.val)) ∧
          ((∀ i, ¬ wrong i) → 8 ≤ s.jobs.length → (∀ j ∈ s.jobs, j.live = true) →
            Answers .announcePanel s f (.refused .full) u [] []) ∧
          ∀ kept gone : List Job, (∀ i, ¬ wrong i) → Evicts s kept gone →
            let j : Job :=
              { tag := a.tag, recipe := n, repeatMark := a.repeatMark == 1, orientation := a.orientation
                pref := if a.pref = 0 then .either else if a.pref = 1 then .a else .b, xoutList := a.xouts
                panelId := a.panelId, state := .announced, cause := .none, bound := none
                boards := r.boards.map fun b =>
                  { index := b.index, state := .waiting, xout := decide (b.index ∈ xs), dest := .none, ranged := false
                    damage := false
                    tabs := b.tabs.map fun _ =>
                      { state := .pending, used := 0, interrupted := false, clamped := false, hard := false } }
                summary := none }
            let after := fun (k : Job) =>
              (((u.updJobs fun _ => kept ++ [k]).updStore fun st =>
                { st with carried := if a.repeatMark = 1 then n else 0 }).updMode fun m =>
                  { m with locked := true }).updShut fun c => c.freed gone
            let reports := gone.map (jobLeft .evicted) ++ [jobLeft .none j]
            ((∀ sh ∈ s.shut.seated, j.pref.allows sh = false) →
              Answers .announcePanel s f (.ok (.announced a.tag n kept.length .announced none (kept.length + 1)))
                (after j) reports []) ∧
            ∀ (before behind : List Shuttle) (sh : Shuttle), s.shut.seated = before ++ sh :: behind →
              (∀ x ∈ before, j.pref.allows x = false) → j.pref.allows sh = true →
              let bound := { j with state := .seated, bound := some sh }
              Answers .announcePanel s f (.ok (.announced a.tag n kept.length .seated (some sh) (kept.length + 1)))
                (((after bound).updShut fun c => { c with seated := c.seated.filter (· != sh) }).updShuttle sh fun r =>
                  { r with state := .seated, bound := a.tag })
                (reports ++ [jobLeft .none bound]) []))

/-- R33: WITHDRAW PANEL refuses a tag that is not listed and a final job, and changes nothing where a withdrawal is pending.
An ANNOUNCED job leaves the list (model's choice of the reply: log entry 28); a SEATED or WAITING AREA job is WITHDRAWN with
its boards ABANDONED, its shuttle at the window (R53); of a LOADING job, and of a CUTTING one with its pass in flight, the
cause HOST is set and the withdrawal is pending (R34, R35). A CUTTING job with no pass in flight has its boards that are not
in motion or final ABANDONED; with every board then final it is WITHDRAWN and given up, its move out asked for, and else the
sequencer is FINISHING (R35, R36, R78); the head lets go of the board it serves (R142). Model's choice of the order of the
abandoned boards' reports: log entry 43. -/
def Obligations.PanelWithdrawn : Prop :=
  ∀ (s : State) (f : Frame) (rest : List Frame) (t0 t1 : Byte), Asks s f rest 0x21#8 [t0, t1] → s.mode.mode ≠ .parked →
    let u := takeFrame rest s
    ((∀ j ∈ s.jobs, j.tag ≠ t0.toNat + 256 * t1.toNat) →
      Answers .withdrawPanel s f (.refused .notFound) u [] []) ∧
    ∀ (before after : List Job) (j : Job), j.tag = t0.toNat + 256 * t1.toNat → Lists s before j after →
    (j.state = .ended ∨ j.state = .withdrawn → Answers .withdrawPanel s f (.refused .wrongState) u [] []) ∧
    (j.state ≠ .ended → j.state ≠ .withdrawn → j.cause ≠ .none →
      Answers .withdrawPanel s f (.ok (.withdrawn j.state j.cause)) u [] []) ∧
    (j.state = .announced → j.cause = .none →
      Answers .withdrawPanel s f (.ok (.withdrawn .announced .none)) (u.updJobs fun _ => before ++ after)
        [jobLeft .withdrawnUnbound j] []) ∧
    (j.state = .loading ∨ (j.state = .cutting ∧ s.seq.pass ≠ none ∧ s.seq.state = .pass) → j.cause = .none →
      Answers .withdrawPanel s f (.ok (.withdrawn j.state .host))
        (u.updJobs fun _ => before ++ { j with cause := .host } :: after) [] []) ∧
    let shut := fun (t : TabRec) => if t.state = .pending then { t with state := .notCut } else t
    let left := fun (b : BoardRec) => { b with state := .abandoned, tabs := b.tabs.map shut }
    (∀ sh, j.state = .seated ∨ j.state = .waitingArea → j.cause = .none → j.bound = some sh →
      (∀ b ∈ j.boards, b.state = .waiting) → (j.boards.map (·.index)).Nodup → s.seq.job ≠ j.tag →
      (∀ r ∈ s.pick.queue, r.job ≠ j.tag) → (∀ r, s.pick.served = some r → r.job ≠ j.tag) →
      let ended := { j with state := .withdrawn, cause := .host, boards := j.boards.map left }
      let gone := { ended with summary := some (summaryOf ended) }
      Answers .withdrawPanel s f (.ok (.withdrawn .withdrawn .host))
        (((u.updJobs fun _ => before ++ gone :: after).updShut fun c => c.setWait sh false).updShuttle sh fun r =>
          { r with state := .atWindow })
        (j.boards.map (fun b => .boardDone (boardReportOf j.tag (s.product j.tag b.index) (left b))) ++
          [jobLeft .none gone]) []) ∧
    (j.state = .cutting → j.cause = .none → s.seq.pass = none → (j.boards.map (·.index)).Nodup →
      let open' := fun (b : BoardRec) =>
        b.state = .waiting ∨ b.state = .cutting ∨ b.state = .holdPending ∨ b.state = .held
      ∃ (t : State) (k : Job), exec .withdrawPanel s = .next t ∧ t.job? j.tag = some k ∧ k.cause = .host ∧
        k.boards.length = j.boards.length ∧
        (∀ (i : Nat) (b : BoardRec), j.boards[i]? = some b →
          (open' b → k.boards[i]? = some (left b)) ∧ (¬ open' b → k.boards[i]? = some b)) ∧
        (s.link.sending = none →
          t.link.sending = some (.reply (replyTo f (.ok (.withdrawn k.state .host))))) ∧
        (∀ b ∈ j.boards, open' b → { job := j.tag, board := b.index } ∉ t.pick.queue) ∧
        (∀ b ∈ j.boards, open' b → s.pick.served = some { job := j.tag, board := b.index } →
          s.pick.head = .approach ∨ s.pick.head = .holding →
          t.pick.head = .returning ∧ t.pick.served = none ∧ t.pick.demand = false) ∧
        ((∃ b ∈ j.boards, b.state = .singled ∨ b.state = .placing) →
          k.state = .cutting ∧
            (s.seq.job = j.tag → s.seq.state = .ready ∨ s.seq.state = .awaitHold ∨ s.seq.state = .toolWait →
              t.seq.state = .finishing ∧ t.seq.fixed = none)) ∧
        ((∀ b ∈ j.boards, b.state ≠ .singled ∧ b.state ≠ .placing) →
          k.state = .withdrawn ∧ k.summary.isSome = true ∧
            (s.seq.job = j.tag → t.seq.state = .idle ∧ t.seq.job = 0 ∧ t.seq.board = none ∧ t.seq.holdList = []) ∧
            ∀ sh, j.bound = some sh →
              (s.mode.mode ≠ .run → (t.shuttle sh).moveOutPending = true) ∧
              (s.mode.mode = .run → (s.shuttle sh).state = .atCut → s.shut.waits sh = false →
                (t.shuttle sh).state = .movingOut ∧ (t.shuttle sh).moveOutPending = false)))

/-- R38: RELEASE JOB is refused in PARKED, for a tag that is not listed and for a live job; it takes a final job off the list,
and the shuttle at the cut area, moving out or at the window that it was bound to is bound to none (R52). -/
def Obligations.JobReleased : Prop :=
  ∀ (s : State) (f : Frame) (rest : List Frame) (t0 t1 : Byte), Asks s f rest 0x23#8 [t0, t1] →
    (s.mode.mode = .parked → Answers .releaseJob s f (.refused .parked) (takeFrame rest s) [] []) ∧
    (s.mode.mode ≠ .parked → (∀ j ∈ s.jobs, j.tag ≠ t0.toNat + 256 * t1.toNat) →
      Answers .releaseJob s f (.refused .notFound) (takeFrame rest s) [] []) ∧
    ∀ (before after : List Job) (j : Job), s.mode.mode ≠ .parked → j.tag = t0.toNat + 256 * t1.toNat →
      Lists s before j after →
      (j.state ≠ .ended ∧ j.state ≠ .withdrawn →
        Answers .releaseJob s f (.refused .wrongState) (takeFrame rest s) [] []) ∧
      (j.state = .ended ∨ j.state = .withdrawn →
        let free := fun (r : ShuttleRec) =>
          if r.bound = j.tag ∧ (r.state = .atCut ∨ r.state = .movingOut ∨ r.state = .atWindow) then { r with bound := 0 }
          else r
        Answers .releaseJob s f (.ok (.jobsListed (before.length + after.length)))
          (((takeFrame rest s).updJobs fun _ => before ++ after).updShut fun c => { c with a := free c.a, b := free c.b })
          [.jobState
            { tag := j.tag, panelId := j.panelId, state := j.state, cause := j.cause, bound := j.bound,
              leave := .released, summary := j.summary }] [])

/-- R39: GET JOB reads one listed job with its position and its boards' product codes, or for tag 0 the directory, and changes
no state. Model's choice: a final job whose recipe place was loaded again shows the codes now there (log entry 1). -/
def Obligations.JobsRead : Prop :=
  (∀ (s : State) (f : Frame) (rest : List Frame) (t0 t1 : Byte) (before after : List Job) (j : Job) (r : Recipe),
      Asks s f rest 0x22#8 [t0, t1] → s.mode.mode ≠ .parked → j.tag = t0.toNat + 256 * t1.toNat → j.tag ≠ 0 →
      Lists s before j after → s.store.find j.recipe = some r →
      (∀ b ∈ j.boards, ∃ e, r.boards[b.index]? = some e) →
      ∃ products : List Nat, products = j.boards.filterMap (fun b => (r.boards[b.index]?).map (·.product)) ∧
        Answers .getJob s f (.ok (.job before.length j products)) (takeFrame rest s) [] []) ∧
    ∀ (s : State) (f : Frame) (rest : List Frame), Asks s f rest 0x22#8 [0#8, 0#8] → s.mode.mode ≠ .parked →
      ∃ lines : List JobLine, lines.map (·.tag) = s.jobs.map (·.tag) ∧ lines.map (·.state) = s.jobs.map (·.state) ∧
        lines.map (·.recipe) = s.jobs.map (·.recipe) ∧ lines.map (·.cause) = s.jobs.map (·.cause) ∧
        lines.map (·.bound) = s.jobs.map (·.bound) ∧
        lines.map (·.finalBoards) = s.jobs.map (fun j => j.boards.countP fun b => b.state.final) ∧
        Answers .getJobDirectory s f (.ok (.jobDirectory lines)) (takeFrame rest s) [] []

/-! ## The mode requests -/

/-- R185, R186: CONFIGURE is refused while the configuration is locked and where an option exceeds its strap; otherwise the
options and the tray policy become those sent and LINE follows the IN lines. With both lines inactive, no automatic swap
asked and no bit to change, nothing else changes. Model's choices: log entries 14, 29. -/
def Obligations.ConfigurationReplaced : Prop :=
  ∀ (s : State) (f : Frame) (rest : List Frame) (o : Options) (policy : Bool),
    Asks s f rest 0x02#8 (encOptions o policy) → s.mode.mode ≠ .parked →
    (s.mode.locked = true → Answers .configure s f (.refused .locked) (takeFrame rest s) [] []) ∧
    (s.mode.locked = false → ¬ o.fits s.mode.straps →
      ∃ n, 3 ≤ n ∧ n ≤ 10 ∧ Answers .configure s f (.badField n none none) (takeFrame rest s) [] []) ∧
    (s.mode.locked = false → o.fits s.mode.straps →
      (∃ t, exec .configure s = .next t ∧ t.mode.options = o ∧ t.route.trayPolicy = policy ∧
        t.mode.pause.host = s.mode.pause.host ∧
        t.mode.pause.line =
          ((o.upUse == .input && s.mode.upLevel) || (o.downUse == .input && s.mode.downLevel))) ∧
      (s.mode.upLevel = false → s.mode.downLevel = false → s.mode.pause.line = false → s.mode.mode ≠ .stopped →
        o.autoSwap = false → s.tool.state ≠ .expired →
        let after := ((takeFrame rest s).updMode fun m => { m with options := o }).updRoute fun r =>
          { r with trayPolicy := policy }
        Answers .configure s f (.ok (.options o policy)) after [.cellState (cellReport .configure after)] []))

/-- R188: the first SET CELL TAG with a text of 1 to 16 characters is accepted, and each later one is refused with LOCKED.
Model's choice: the characters may be any bytes (log entry 32). -/
def Obligations.CellTagSetOnce : Prop :=
  ∀ (s : State) (f : Frame) (rest : List Frame) (tag : List Byte), tag.length ≤ 255 →
    Asks s f rest 0x03#8 (encText tag) → s.mode.mode ≠ .parked →
    (s.mode.tag ≠ none → Answers .setCellTag s f (.refused .locked) (takeFrame rest s) [] []) ∧
    (s.mode.tag = none → ¬ (1 ≤ tag.length ∧ tag.length ≤ 16) →
      Answers .setCellTag s f (.badField 1 none none) (takeFrame rest s) [] []) ∧
    (s.mode.tag = none → 1 ≤ tag.length → tag.length ≤ 16 →
      let after := (takeFrame rest s).updMode fun m => { m with tag := some tag }
      Answers .setCellTag s f (.ok (.cellTag tag)) after [.cellState (cellReport .tagSet after)] [])

/-- R193, R194: PAUSE adds the cause HOST, which from RUN gives PAUSED; with HOST present nothing changes. -/
def Obligations.PauseTaken : Prop :=
  ∀ (s : State) (f : Frame) (rest : List Frame), Asks s f rest 0x40#8 [] → s.mode.mode ≠ .parked →
    let paused := { s.mode.pause with host := true }
    (s.mode.pause.host = true →
      Answers .pause s f (.ok (.causes s.mode.mode s.mode.pause s.mode.stop)) (takeFrame rest s) [] []) ∧
    (s.mode.pause.host = false → s.mode.mode ≠ .run →
      let after := (takeFrame rest s).updMode fun m => { m with pause := paused }
      Answers .pause s f (.ok (.causes s.mode.mode paused s.mode.stop)) after
        [.cellState (cellReport .cause after)] []) ∧
    (s.mode.pause.host = false → s.mode.mode = .run → NothingHeld s →
      let after := (takeFrame rest s).withMode { s.mode with pause := paused, mode := .paused }
      Answers .pause s f (.ok (.causes .paused paused s.mode.stop)) after [.cellState (cellReport .mode after)] [])

/-- R193: RESUME ends a stop whose interlock lines are clear: both stop causes and HOST go, and HOMING begins with the kind that
stands; in HOMING, PAUSED and PARKING it removes HOST, which from PAUSED with no other cause gives RUN, and in PARKING with no
other cause starts the park motions (R195). -/
def Obligations.ResumeTaken : Prop :=
  ∀ (s : State) (f : Frame) (rest : List Frame), Asks s f rest 0x41#8 [] → s.mode.mode ≠ .parked →
    let resumed := { s.mode.pause with host := false }
    (s.mode.mode = .stopped → s.mode.estopActive = true ∨ s.mode.doorActive = true →
      Answers .resume s f (.refused .wrongState) (takeFrame rest s) [] []) ∧
    (s.mode.mode = .stopped → s.mode.estopActive = false → s.mode.doorActive = false →
      let after := ((takeFrame rest s).withMode
        { s.mode with
          mode := .homing, stop := noStops, faulted := State.noGroups, pause := resumed, referenced := State.noGroups,
          refReq := nextOfEach s }).numberedAll
      Answers .resume s f (.ok (.causes .homing resumed noStops)) after [.cellState (cellReport .mode after)]
        (toEach s (.reference s.mode.homing))) ∧
    (s.mode.mode ≠ .stopped → s.mode.pause.host = false →
      Answers .resume s f (.ok (.causes s.mode.mode s.mode.pause s.mode.stop)) (takeFrame rest s) [] []) ∧
    (s.mode.mode = .homing ∨ ((s.mode.mode = .paused ∨ s.mode.mode = .parking) ∧ s.mode.pause.line = true) →
      s.mode.pause.host = true →
      let after := (takeFrame rest s).updMode fun m => { m with pause := resumed }
      Answers .resume s f (.ok (.causes s.mode.mode resumed s.mode.stop)) after
        [.cellState (cellReport .cause after)] []) ∧
    (s.mode.mode = .parking → s.mode.pause.host = true → s.mode.pause.line = false →
      let after := ((takeFrame rest s).updMode fun m => { m with pause := resumed }).parksRequested
      Answers .resume s f (.ok (.causes .parking resumed s.mode.stop)) after [.cellState (cellReport .cause after)]
        s.parksSent) ∧
    (s.mode.mode = .paused → s.mode.pause.host = true → s.mode.pause.line = false →
      ∃ t, exec .resume s = .next t ∧ t.mode.mode = .run ∧ t.mode.pause = resumed)

/-- R195, R196: PARK is taken in RUN and PAUSED with no cut area held and an idle head, and with nothing to wait for every
group is sent its park motion; WAKE is taken in PARKED and begins homing IN PLACE. Model's choices: log entry 10. -/
def Obligations.ParkAndWake : Prop :=
  (∀ (s : State) (f : Frame) (rest : List Frame), Asks s f rest 0x42#8 [] → s.mode.mode ≠ .parked →
    (s.mode.mode ≠ .run → s.mode.mode ≠ .paused →
      Answers .park s f (.refused .wrongState) (takeFrame rest s) [] []) ∧
    (s.mode.mode = .run ∨ s.mode.mode = .paused →
      (s.shut.holder ≠ none ∨ s.pick.head ≠ .idle → Answers .park s f (.refused .busy) (takeFrame rest s) [] []) ∧
      (s.shut.holder = none → s.pick.head = .idle → s.mode.pause.any = true →
        let after := (takeFrame rest s).withMode
          { s.mode with mode := .parking, parkDone := State.noGroups, parkReq := PerGroup.const none }
        Answers .park s f (.ok .empty) after [.cellState (cellReport .mode after)] []) ∧
      (s.shut.holder = none → s.pick.head = .idle → s.mode.pause.any = false → (∀ g, groupBusy s g = false) →
        let after := ((takeFrame rest s).withMode
          { s.mode with mode := .parking, parkDone := State.noGroups, parkReq := nextOfEach s }).numberedAll
        Answers .park s f (.ok .empty) after [.cellState (cellReport .mode after)] (toEach s .park)))) ∧
  ∀ (s : State) (f : Frame) (rest : List Frame), Asks s f rest 0x43#8 [] →
    (s.mode.mode ≠ .parked → Answers .wake s f (.refused .wrongState) (takeFrame rest s) [] []) ∧
    (s.mode.mode = .parked →
      let after := ((takeFrame rest s).withMode
        { s.mode with
          mode := .homing, homing := .inPlace, referenced := State.noGroups, refReq := nextOfEach s }).numberedAll
      Answers .wake s f (.ok .empty) after [.cellState (cellReport .mode after)] (toEach s (.reference .inPlace)))

/-! ## The claim table and the tray -/

/-- R146, R147: SET CLAIM replaces one entry whole and no other, and with no board waiting changes nothing else; GET CLAIMS reads
the table, the wait, the tray's count, policy, option and placement, and changes nothing. -/
def Obligations.ClaimsSetAndRead : Prop :=
  (∀ (s : State) (f : Frame) (rest : List Frame) (i : Fin 8) (e : ClaimEntry),
    Asks s f rest 0x18#8 (enc1 i.val ++ encClaim e) → s.mode.mode ≠ .parked → e.zone ≤ 3 → 1 ≤ e.low →
    e.low ≤ 4095 → e.high ≤ 4095 →
    (e.high < e.low → Answers .setClaim s f (.badField 4 none none) (takeFrame rest s) [] []) ∧
    (e.low ≤ e.high →
      (∃ t, exec .setClaim s = .next t ∧ t.route.claims = s.route.claims.set i.val e i.isLt) ∧
      (s.route.wait = none →
        Answers .setClaim s f (.ok (.claimSet e none))
          ((takeFrame rest s).updRoute fun r => { r with claims := r.claims.set i.val e i.isLt }) [] []))) ∧
  ∀ (s : State) (f : Frame) (rest : List Frame), Asks s f rest 0x19#8 [] →
    (s.mode.mode = .parked → Answers .getClaims s f (.refused .parked) (takeFrame rest s) [] []) ∧
    (s.mode.mode ≠ .parked →
      Answers .getClaims s f
        (.ok (.claims s.route.claims s.route.wait s.route.trayCount s.route.trayPolicy s.mode.options.tray
          s.route.trayInProgress)) (takeFrame rest s) [] [])

/-- R155, R153: EMPTY TRAY is refused with no tray in use or with a placement in progress; otherwise the count becomes 0, and a
damaged or X-out board that waits on the head is sent to the tray in the same step. -/
def Obligations.TrayEmptied : Prop :=
  ∀ (s : State) (f : Frame) (rest : List Frame), Asks s f rest 0x3B#8 [] → s.mode.mode ≠ .parked →
    (s.mode.options.tray = false ∨ s.route.trayInProgress = true →
      Answers .emptyTray s f (.refused .wrongState) (takeFrame rest s) [] []) ∧
    (s.mode.options.tray = true → s.route.trayInProgress = false →
      (s.route.wait = none →
        Answers .emptyTray s f (.ok (.trayEmptied s.route.trayCount none))
          ((takeFrame rest s).updRoute fun r => { r with trayCount := 0 }) [] []) ∧
      ∀ (w : WaitRec) (b : BoardRec), s.route.wait = some w → s.pick.carried = some w.ref →
        s.board? w.ref.job w.ref.board = some b → b.damage = true ∨ b.xout = true →
        Answers .emptyTray s f (.ok (.trayEmptied s.route.trayCount none))
          ((((takeFrame rest s).updRoute fun r => { r with trayCount := 0, trayInProgress := true, wait := none }).updBoard
            w.ref.job w.ref.board fun b => { b with dest := .tray, ranged := false }).headed s.pick .transfer)
          [] (motionSent .transfer (.transfer .tray) s))

/-! ## The bit -/

/-- R117, R118, R84, R100: SET TOOL waits for no pass: with one in flight, with a working bit outside PAUSED and STOPPED, or
with the changer moving, it is refused with BUSY; otherwise the bit's record is rebuilt whole. For a sequencer in TOOL WAIT it
is a choice point (R69, R115): outside RUN it becomes READY, and in RUN the fixed pass is requested. GET TOOL reads the
record. Model's choices: log entry 18. -/
def Obligations.BitDeclared : Prop :=
  (∀ (s : State) (f : Frame) (rest : List Frame) (d : BitDesc), Asks s f rest 0x30#8 (encBit d) →
    s.mode.mode ≠ .parked → d.inRange →
    let still := s.mode.mode = .paused ∨ s.mode.mode = .stopped
    (s.seq.pass ≠ none ∨ (s.tool.state = .fitted ∧ ¬ still) ∨
        (s.tool.state = .changing ∧ (¬ still ∨ s.changerMoving = true)) →
      Answers .setTool s f (.refused .busy) (takeFrame rest s) [] []) ∧
    (s.seq.pass = none → (s.tool.state = .fitted → still) → (s.tool.state = .changing → still ∧ s.changerMoving = false) →
      let n := max 1 (min d.nreq (d.u / d.s))
      let shares := List.replicate (n - 1) (d.lb / n) ++ [d.lb - (n - 1) * (d.lb / n)]
      let record : ToolRec :=
        { state := .fitted, desc := some d, n := n, q := d.lb / n,
          segs := shares.map fun x => { share := x, used := 0, cause := .opened }
          k := 0, charged := 0, hardCount := 0, rack := s.tool.rack, op := none }
      let report : Report := .toolState
        { cause := .setTool, state := .fitted, desc := some d, n := n, k := 0, used := 0, forfeits := 0,
          remaining := d.lb, charged := 0, rackCount := s.tool.rack.length, op := none }
      let declared := (takeFrame rest s).updTool fun _ => record
      (s.seq.state ≠ .toolWait → Answers .setTool s f (.ok (.toolSet n shares)) declared [report] []) ∧
      (s.seq.state = .toolWait → s.mode.mode ≠ .run → s.seq.job ≠ 0 → s.withdrawing s.seq.job = false →
        Answers .setTool s f (.ok (.toolSet n shares)) (declared.updSeq fun q => { q with state := .ready }) [report] []) ∧
      ∀ (x : FixedPass) (held : Bool) (t : TabRec) (recipe : Recipe) (te : TabEntry), s.mode.mode = .run →
        AwaitsBit s x held t recipe te →
        let grant := firstGrant d n recipe te.w (t.used + 1)
        grant.debit ≤ shares.headD 0 →
        Answers .setTool s f (.ok (.toolSet n shares))
          (((takeFrame rest s).updTool fun _ => record.charged1 grant.debit).fixedRequested x held (t.used + 1) grant)
          [.toolState (toolReportOf .setTool (record.charged1 grant.debit))] (fixedSent s x te.dir grant))) ∧
  ∀ (s : State) (f : Frame) (rest : List Frame), Asks s f rest 0x32#8 [] → s.mode.mode ≠ .parked →
    Answers .getTool s f (.ok (.tool s.tool)) (takeFrame rest s) [] []

/-- R119 to R121: RACK BIT appends to the rack, FULL at 6 entries; for an EXPIRED bit with the changer in use it begins a change to
the head of the rack, which in RUN is requested at once. -/
def Obligations.BitRacked : Prop :=
  ∀ (s : State) (f : Frame) (rest : List Frame) (d : BitDesc), Asks s f rest 0x31#8 (encBit d) →
    s.mode.mode ≠ .parked → d.inRange →
    (6 ≤ s.tool.rack.length → Answers .rackBit s f (.refused .full) (takeFrame rest s) [] []) ∧
    (s.tool.rack.length < 6 →
      let rack := s.tool.rack ++ [d]
      (s.tool.state ≠ .expired ∨ s.mode.options.changer = false →
        let record := { s.tool with rack := rack }
        Answers .rackBit s f (.ok (.rackAdded (s.tool.rack.length + 1) s.tool.state))
          ((takeFrame rest s).updTool fun _ => record) [.toolState (toolReportOf .rack record)] []) ∧
      ∀ e, s.tool.state = .expired → s.mode.options.changer = true → rack.head? = some e →
        let waiting : ToolRec :=
          { s.tool with
            rack := rack, state := .changing, op := some { phase := .waiting, entry := e, attempts := 0, req := none } }
        let moving : ToolRec :=
          { waiting with op := some { phase := .moving, entry := e, attempts := 1, req := some s.drive.bay } }
        (s.mode.mode ≠ .run →
          Answers .rackBit s f (.ok (.rackAdded (s.tool.rack.length + 1) .changing))
            ((takeFrame rest s).updTool fun _ => waiting) [.toolState (toolReportOf .rack waiting)] []) ∧
        (s.mode.mode = .run →
          Answers .rackBit s f (.ok (.rackAdded (s.tool.rack.length + 1) .changing))
            (((takeFrame rest s).updTool fun _ => moving).numbered .bay)
            [.toolState (toolReportOf .rack waiting), .toolState (toolReportOf .changeStarted moving)]
            [.request .bay s.drive.bay (.toolChange e)]))

/-! ## The magazines -/

/-- R161, R162: ACCEPT MAGAZINE for an enabled bay that shows a magazine, with a tag that no other accepted magazine has, builds
the record, the zones and the slot map and makes the bay ONLINE; with auto-swap on and no FREE slot the bay is released at
once (R174). A waiting board is resolved again in the same step (R153): the first claim that names its code and offers a run,
the new magazine's among them, gives it that run and a TRANSFER, failing those the first whose range holds the code; a damaged
or X-out board goes to a tray with room; and else it waits on. Model's choice: the tag's characters may be any bytes (log
entry 32). -/
def Obligations.MagazineAccepted : Prop :=
  ∀ (s : State) (f : Frame) (rest : List Frame) (b : Bay) (m : MagRec) (list : Option (List Nat)),
    Asks s f rest 0x38#8
      (enc1 b.val ++ encBool list.isSome ++ encText m.tag ++ enc1 m.slots ++ enc2 m.pitch ++ encList enc1 m.zoneEnds ++
        (list.map (encList enc1)).getD []) →
    let preloaded := list.getD []
    s.mode.mode ≠ .parked → (1 ≤ m.tag.length ∧ m.tag.length ≤ 16) → (10 ≤ m.slots ∧ m.slots ≤ 50) →
    (200 ≤ m.pitch ∧ m.pitch ≤ 1000) → (1 ≤ m.zoneEnds.length ∧ m.zoneEnds.length ≤ 4) →
    m.zoneEnds.Pairwise (· < ·) → m.zoneEnds.getLast? = some (m.slots - 1) → preloaded.length ≤ 50 → preloaded.Nodup →
    (∀ i ∈ preloaded, i < m.slots) →
    (s.bayEnabled b = false → Answers .acceptMagazine s f (.badField 1 none none) (takeFrame rest s) [] []) ∧
    (s.bayEnabled b = true → (s.bayRec b).state ≠ .present →
      Answers .acceptMagazine s f (.refused .wrongState) (takeFrame rest s) [] []) ∧
    (s.bayEnabled b = true → (s.bayRec b).state = .present →
      let taken := ∃ c, c ≠ b ∧ (s.bayRec c).state ≠ .empty ∧ (s.bayRec c).state ≠ .present ∧
        ∃ o, (s.bayRec c).mag = some o ∧ o.tag = m.tag
      (taken → Answers .acceptMagazine s f (.refused .inUse) (takeFrame rest s) [] []) ∧
      (¬ taken →
        let slots : List Slot := (List.range m.slots).map fun i =>
          { state := if i ∈ preloaded then .preloaded else .free, ref := .none }
        let record : BayRec :=
          { s.bayRec b with
            state := .online, mag := some m, slots := some slots, latch := .none, awaited := none, stray := 0 }
        let full := s.mode.options.autoSwap = true ∧ ∀ i, i < m.slots → i ∈ preloaded
        (s.route.wait = none → ¬ full →
          ∃ zones : List ZoneLine, zones.map (·.last) = m.zoneEnds ∧
            zones.map (·.first) = (0 :: m.zoneEnds.map (· + 1)).dropLast ∧
            (∀ z ∈ zones, z.free = ((List.range m.slots).filter fun i => z.first ≤ i ∧ i ≤ z.last ∧ i ∉ preloaded).length) ∧
            Answers .acceptMagazine s f (.ok (.magazine .online zones)) ((takeFrame rest s).updBayRec b fun _ => record)
              [.bayState (bayReportOf b .accepted record)] []) ∧
        (s.route.wait = none → full →
          let swapped := fun (l : Latch) => { record with state := .released, swap := .auto, latch := l }
          ∃ t, exec .acceptMagazine s = .next t ∧
            (s.mode.mode = .run ∨ s.mode.mode = .paused → t.bayRec b = swapped (.inFlight s.drive.bay)) ∧
            (s.mode.mode ≠ .run → s.mode.mode ≠ .paused → t.bayRec b = swapped .held)) ∧
        ∃ t, exec .acceptMagazine s = .next t ∧ (t.bayRec b).mag = some m ∧ (t.bayRec b).stray = 0 ∧
          (s.mode.options.autoSwap = false → (t.bayRec b).state = .online) ∧
          ∀ (w : WaitRec) (x : BoardRec) (recipe : Recipe), s.route.wait = some w → s.pick.carried = some w.ref →
            s.board? w.ref.job w.ref.board = some x → s.jobRecipe? w.ref.job = some recipe →
            let code := s.product w.ref.job w.ref.board
            let direct := fun (i : Fin 8) => s.route.claims[i].enabled = true ∧ s.route.claims[i].low = code
            let ranged := fun (i : Fin 8) =>
              s.route.claims[i].enabled = true ∧ s.route.claims[i].exactOnly = false ∧ s.route.claims[i].low ≤ code ∧
                code ≤ s.route.claims[i].high
            let answer := fun (i : Fin 8) => tryEntry recipe.hc (s.updBayRec b fun _ => record) s.route.claims[i]
            let noOffer := fun (tried : Fin 8 → Prop) => ∀ i, tried i → ∀ o, answer i ≠ .ok o
            let first := fun (tried : Fin 8 → Prop) (o : Offer) =>
              ∃ i, tried i ∧ answer i = .ok o ∧ ∀ k, k < i → tried k → ∀ q, answer k ≠ .ok q
            let sent := fun (d : Destination) (mark : Bool) =>
              t.board? w.ref.job w.ref.board = some { x with dest := d, ranged := mark } ∧ t.route.wait = none ∧
                t.pick = PickRec.called s.pick .transfer s ∧ motionSent .transfer (.transfer d) s <+: t.out.sent
            let given := fun (o : Offer) (mark : Bool) =>
              let run : RunHead :=
                { job := w.ref.job, board := w.ref.board, product := code, ranged := mark, count := o.count, cause := none }
              sent (.run o.bay o.first o.count) mark ∧
                (t.bayRec o.bay).map[o.first]? = some { state := .reserved, ref := .head run }
            (x.damage = true ∨ x.xout = true → s.mode.options.tray = true → s.route.trayCount < 40 →
              sent .tray false ∧ t.route.trayInProgress = true) ∧
            (x.damage = false → x.xout = false →
              (∀ o, first direct o → 1 ≤ o.count → given o false) ∧
              (noOffer direct → ∀ o, first ranged o → 1 ≤ o.count → given o true) ∧
              (noOffer direct → noOffer ranged → s.mode.options.tray = false ∨ s.route.trayPolicy = false →
                let names := fun (i : Fin 8) => direct i ∨ ranged i
                t.pick = s.pick ∧ ∃ v, t.route.wait = some v ∧ v.ref = w.ref ∧ v.product = code ∧ v.trayBound = false ∧
                  (v.outcome = .zoneFull ↔ (∃ i, names i) ∧ ∀ i, names i → answer i = .error .noFreeRun) ∧
                  (v.outcome ≠ .zoneFull → v.outcome = .unclaimed)))))

/-- R173, R175, R178, R180: SWAP BAY releases a bay with no RESERVED slot, its latch opening, and leaves a bay with one DRAINING;
GET BAY reads a bay, each zone with its FREE slots and its longest run of consecutive FREE slots. -/
def Obligations.BaySwappedAndRead : Prop :=
  (∀ (s : State) (f : Frame) (rest : List Frame) (n : Byte), Asks s f rest 0x39#8 [n] → s.mode.mode ≠ .parked →
    (4 ≤ n.toNat → Answers .swapBay s f (.badField 1 none none) (takeFrame rest s) [] []) ∧
    ∀ b : Bay, n.toNat = b.val →
      (s.bayFitted b = false → Answers .swapBay s f (.badField 1 none none) (takeFrame rest s) [] []) ∧
      (s.bayFitted b = true →
        ((s.bayRec b).state = .empty ∨ (s.bayRec b).state = .present ∨ (s.bayRec b).state = .released →
          Answers .swapBay s f (.refused .wrongState) (takeFrame rest s) [] []) ∧
        ((s.bayRec b).state = .draining → Answers .swapBay s f (.ok (.swapped .draining)) (takeFrame rest s) [] []) ∧
        ((s.bayRec b).state = .online → anyReserved (s.bayRec b).map = true →
          let record := { s.bayRec b with swap := .host, state := .draining }
          Answers .swapBay s f (.ok (.swapped .draining)) ((takeFrame rest s).updBayRec b fun _ => record)
            [.bayState (bayReportOf b .swapAsked record)] []) ∧
        ((s.bayRec b).state = .online → anyReserved (s.bayRec b).map = false →
          (s.mode.mode = .run ∨ s.mode.mode = .paused →
            let record := { s.bayRec b with swap := .host, state := .released, latch := .inFlight s.drive.bay }
            Answers .swapBay s f (.ok (.swapped .released))
              (((takeFrame rest s).updBayRec b fun _ => record).numbered .bay)
              [.bayState (bayReportOf b .swapAsked record)] [.request .bay s.drive.bay (.latchOpen b)]) ∧
          (s.mode.mode ≠ .run ∧ s.mode.mode ≠ .paused →
            let record := { s.bayRec b with swap := .host, state := .released, latch := .held }
            Answers .swapBay s f (.ok (.swapped .released)) ((takeFrame rest s).updBayRec b fun _ => record)
              [.bayState (bayReportOf b .swapAsked record)] [])))) ∧
  ∀ (s : State) (f : Frame) (rest : List Frame) (n : Byte), Asks s f rest 0x3A#8 [n] → s.mode.mode ≠ .parked →
    (4 ≤ n.toNat → Answers .getBay s f (.badField 1 none none) (takeFrame rest s) [] []) ∧
    ∀ b : Bay, n.toNat = b.val →
      (s.bayFitted b = false → Answers .getBay s f (.badField 1 none none) (takeFrame rest s) [] []) ∧
      (s.bayFitted b = true →
        let free := fun (i : Nat) => ((s.bayRec b).map[i]?).map (·.state) = some .free
        let stretch := fun (z : ZoneDetail) (i n : Nat) =>
          z.first ≤ i ∧ i + n ≤ z.last + 1 ∧ ∀ k, i ≤ k → k < i + n → free k
        ∃ r : BayReply, r.state = (s.bayRec b).state ∧ r.disabled = !s.bayEnabled b ∧ r.swap = (s.bayRec b).swap ∧
          r.latch = (s.bayRec b).latch ∧ r.stray = (s.bayRec b).stray ∧ r.mag = (s.bayRec b).mag ∧
          ((s.bayRec b).mag = none → r.zones = []) ∧
          (∀ m, (s.bayRec b).mag = some m → r.zones.map (·.last) = m.zoneEnds ∧
            r.zones.map (·.first) = (0 :: m.zoneEnds.map (· + 1)).dropLast) ∧
          (∀ z ∈ r.zones, z.free = ((List.range (z.last + 1)).filter fun i => z.first ≤ i ∧ free i).length ∧
            (0 < z.longest → ∃ i, stretch z i z.longest) ∧ ∀ i n, stretch z i n → n ≤ z.longest) ∧
          r.awaited = (s.bayRec b).awaited ∧ r.trayAwaited = s.bay.trayAwaited ∧
          r.runs = (s.bayRec b).slots.map (runsFrom 0) ∧
          (∀ i, i ∈ r.preloaded ↔ ∃ x, (s.bayRec b).map[i]? = some x ∧ x.state = .preloaded) ∧
          (∀ i, i ∈ r.blockedAlone ↔ (s.bayRec b).map[i]? = some { state := .blocked, ref := .none }) ∧
          Answers .getBay s f (.ok (.bay r)) (takeFrame rest s) [] [])

/-! ## The shuttles -/

/-- R44, R45, R53: a panel on a VACANT shuttle is bound to the oldest ANNOUNCED job whose preference allows it, or becomes UNBOUND
behind the other; a removal makes a shuttle VACANT at the window, withdrawing the job it was bound to; elsewhere only the line's
level follows. -/
def Obligations.PanelSeen : Prop :=
  (∀ (s : State) (sh : Shuttle),
    let lined := fun (level : Bool) => { s.shuttle sh with panelLine := level }
    ((s.shuttle sh).state ≠ .vacant →
      Effect (.panelPresent sh) s (s.updShuttle sh fun _ => lined true) [] []) ∧
    ((s.shuttle sh).state = .vacant → (∀ j ∈ s.jobs, ¬ (j.state = .announced ∧ j.pref.allows sh = true)) →
      Effect (.panelPresent sh) s
        ((s.updShuttle sh fun _ => { lined true with state := .unbound }).updShut fun c =>
          { c with seated := c.seated ++ [sh] }) [] []) ∧
    ((s.shuttle sh).state = .unbound →
      Effect (.panelRemoved sh) s
        ((s.updShuttle sh fun _ => { lined false with state := .vacant }).updShut fun c =>
          { c with seated := c.seated.filter (· != sh) }) [] []) ∧
    ((s.shuttle sh).state = .atWindow →
      Effect (.panelRemoved sh) s (s.updShuttle sh fun _ => { lined false with state := .vacant, bound := 0 }) [] []) ∧
    ((s.shuttle sh).state = .vacant ∨ (s.shuttle sh).state = .movingIn ∨ (s.shuttle sh).state = .atCut ∨
        (s.shuttle sh).state = .movingOut →
      Effect (.panelRemoved sh) s (s.updShuttle sh fun _ => lined false) [] [])) ∧
  (∀ (s : State) (sh : Shuttle) (before after : List Job) (j : Job), (s.shuttle sh).state = .vacant →
    Lists s before j after → j.state = .announced → j.pref.allows sh = true →
    (∀ k ∈ before, ¬ (k.state = .announced ∧ k.pref.allows sh = true)) →
    let bound := { j with state := .seated, bound := some sh }
    Effect (.panelPresent sh) s
      ((s.updShuttle sh fun r => { r with state := .seated, bound := j.tag, panelLine := true }).updJobs fun _ =>
        before ++ bound :: after)
      [.jobState
        { tag := j.tag, panelId := j.panelId, state := .seated, cause := j.cause, bound := some sh, leave := .none,
          summary := j.summary }] []) ∧
  ∀ (s : State) (sh : Shuttle) (before after : List Job) (j : Job), Lists s before j after →
    (s.shuttle sh).state = .seated ∨ (s.shuttle sh).state = .waitingArea → (s.shuttle sh).bound = j.tag →
    j.state = .seated ∨ j.state = .waitingArea → (∀ b ∈ j.boards, b.state = .waiting) →
    ∃ (t : State) (k : Job), exec (.panelRemoved sh) s = .next t ∧ t.shut.waits sh = false ∧
      t.shuttle sh = { s.shuttle sh with state := .vacant, bound := 0, panelLine := false } ∧
      t.jobs = before ++ k :: after ∧ k.tag = j.tag ∧ k.state = .withdrawn ∧ k.cause = .panelRemoved ∧ k.bound = none ∧
      k.summary.isSome = true ∧ ∀ b ∈ k.boards, b.state = .abandoned

/-- R47, R48, R50: in RUN a SEATED shuttle's request makes it and its job WAITING AREA; with the cut area held by none and
no other waiting it is granted at once, its job LOADING and its move in requested. Otherwise the event is not applied.
Model's choices: log entry 11. -/
def Obligations.AreaGranted : Prop :=
  (∀ (s : State) (sh : Shuttle), (s.shuttle sh).state ≠ .seated ∨ s.mode.mode ≠ .run →
    exec (.shuttleAreaRequest sh) s = .next { s with out := emptyOutput }) ∧
  ∀ (s : State) (sh : Shuttle) (before after : List Job) (j : Job), (s.shuttle sh).state = .seated → s.mode.mode = .run →
    Lists s before j after → j.tag = (s.shuttle sh).bound → j.state = .seated →
    let report := fun (st : JobState) => Report.jobState
      { tag := j.tag, panelId := j.panelId, state := st, cause := j.cause, bound := j.bound, leave := .none,
        summary := j.summary }
    (s.shut.holder ≠ none →
      Effect (.shuttleAreaRequest sh) s
        (((s.updShuttle sh fun r => { r with state := .waitingArea }).updShut fun c => c.setWait sh true).updJobs fun _ =>
          before ++ { j with state := .waitingArea } :: after)
        [report .waitingArea] []) ∧
    (s.shut.holder = none → s.shut.waitA = false → s.shut.waitB = false →
      Effect (.shuttleAreaRequest sh) s
        ((((s.updShuttle sh fun r => { r with state := .movingIn, moveReq := some s.drive.shuttle }).updShut fun c =>
          { c with holder := some sh }).updJobs fun _ => before ++ { j with state := .loading } :: after).numbered .shuttle)
        [report .waitingArea, report .loading] [.request .shuttle s.drive.shuttle (.moveIn sh)])

/-- R50, R58, R34, R51: at the cut area the job becomes CUTTING and the Cut Sequencer takes it up, waiting outside RUN for its
choice, or, a withdrawal being pending, its boards are abandoned and its move out is asked for; at the window the line is read. An
event that carries another number is not applied. -/
def Obligations.ShuttleArrives : Prop :=
  (∀ (s : State) (sh : Shuttle) (req : ReqNo) (before after : List Job) (j : Job), (s.shuttle sh).state = .movingIn →
    (s.shuttle sh).moveReq = some req → Lists s before j after → j.tag = (s.shuttle sh).bound → j.tag ≠ 0 →
    j.state = .loading → s.seq.pass = none → s.mode.mode ≠ .run →
    (j.cause = .none →
      Effect (.shuttleInPosition sh req) s
        (((s.updShuttle sh fun r => { r with state := .atCut, moveReq := none }).updJobs fun _ =>
          before ++ { j with state := .cutting } :: after).updSeq fun _ =>
            { state := .ready, job := j.tag, board := none, order := [], posX := 0, posY := 0, holdList := [],
              fixed := none, pass := none })
        [.jobState
          { tag := j.tag, panelId := j.panelId, state := .cutting, cause := .none, bound := j.bound, leave := .none,
            summary := j.summary }] []) ∧
    (j.cause ≠ .none → (∀ b ∈ j.boards, b.state = .waiting) →
      ∃ (t : State) (k : Job), exec (.shuttleInPosition sh req) s = .next t ∧
        t.shuttle sh = { s.shuttle sh with state := .atCut, moveReq := none, moveOutPending := true } ∧
        t.jobs = before ++ k :: after ∧ k.tag = j.tag ∧ k.state = .withdrawn ∧ k.cause = j.cause ∧
        ∀ b ∈ k.boards, b.state = .abandoned)) ∧
  (∀ (s : State) (sh : Shuttle) (req : ReqNo), (s.shuttle sh).state ≠ .movingIn ∨ (s.shuttle sh).moveReq ≠ some req →
    exec (.shuttleInPosition sh req) s = .next { s with out := emptyOutput }) ∧
  (∀ (s : State) (sh : Shuttle) (req : ReqNo), (s.shuttle sh).state ≠ .movingOut ∨ (s.shuttle sh).moveReq ≠ some req →
    exec (.shuttleMoveOutComplete sh req) s = .next { s with out := emptyOutput }) ∧
  ∀ (s : State) (sh : Shuttle) (req : ReqNo), (s.shuttle sh).state = .movingOut → (s.shuttle sh).moveReq = some req →
    s.mode.mode ≠ .parking →
    ((s.shuttle sh).panelLine = true →
      Effect (.shuttleMoveOutComplete sh req) s
        (s.updShuttle sh fun r => { r with state := .atWindow, moveReq := none }) [] []) ∧
    ((s.shuttle sh).panelLine = false →
      Effect (.shuttleMoveOutComplete sh req) s
        (s.updShuttle sh fun r => { r with state := .vacant, bound := 0, moveReq := none }) [] [])

/-! ## The cut -/

/-- R60, R61: a board's start tab is the nearest to the spindle, the lowest ring index among equals; its cut order holds every ring
index once, from the start tab on in the ring direction. -/
def Obligations.CutOrderWalksRing : Prop :=
  (∀ (sx sy : Nat) (ps : List (Nat × Nat)), ps ≠ [] →
    ∃ p, ps[startTab sx sy ps]? = some p ∧
      ∀ (i : Nat) (q : Nat × Nat), ps[i]? = some q →
        sqDist p.1 p.2 sx sy ≤ sqDist q.1 q.2 sx sy ∧
          (i < startTab sx sy ps → sqDist p.1 p.2 sx sy < sqDist q.1 q.2 sx sy)) ∧
  ∀ (m start : Nat) (ascending : Bool), start < m →
    (cutOrder m start ascending).length = m ∧ (cutOrder m start ascending).Nodup ∧
      (∀ i ∈ cutOrder m start ascending, i < m) ∧ (cutOrder m start ascending)[0]? = some start ∧
      ∀ i a b, (cutOrder m start ascending)[i]? = some a → (cutOrder m start ascending)[i + 1]? = some b →
        if ascending then b = (if a + 1 = m then 0 else a + 1) else b = (if a = 0 then m - 1 else a - 1)

/-- R86 to R94: the figures of a pass that the Tool Monitor grants, for the segment that its wear check settles: each segment
that cannot pay is left WORN, and the first that can is charged (R91, R92). Where none can, the bit is EXPIRED and no pass is
granted (R91, R98): with the changer in use and a bit racked a change to the rack's head is begun, which in RUN is requested
at once, and else TOOL EXPIRED is raised (R120, R121). -/
def Obligations.PassFigures : Prop :=
  ∀ (s : State) (ask : PassAsk) (d : BitDesc), s.tool.state = .fitted → s.tool.desc = some d → d.inRange →
    ask.recipe.inRange → (30 ≤ ask.w ∧ ask.w ≤ 500) → 1 ≤ ask.p →
    let len := ask.w + d.d + 2 * ask.recipe.o
    let debit := (len * ask.recipe.t + 9999) / 10000
    let pays := fun (g : Segment) => debit ≤ g.share - g.used
    110 ≤ len ∧ len ≤ 900 ∧ 1 ≤ debit ∧ debit ≤ 29 ∧
    (∀ (k : Nat) (g : Segment), s.tool.k ≤ k → s.tool.segs[k]? = some g → pays g →
      (∀ i h, s.tool.k ≤ i → i < k → s.tool.segs[i]? = some h → ¬ pays h) →
      let feed := if k + 1 < s.tool.n then ask.recipe.f else max 1 (3 * ask.recipe.f / 4)
      let z := ask.recipe.t + ask.recipe.b + k * d.s + (ask.p - 1) * 10
      ∃ grant : Grant, grant.k = k ∧ grant.pathLen = len ∧ grant.debit = debit ∧ grant.feed = feed ∧
        10 * len ≤ grant.time * feed ∧ grant.time * feed < 10 * len + feed ∧ 11 ≤ grant.time ∧ grant.time ≤ 9000 ∧
        grant.watch = 2 * grant.time + 250 ∧ grant.depth = (if z ≤ ask.recipe.zc then z else ask.recipe.zc) ∧
        (grant.clamped = true ↔ ask.recipe.zc < z) ∧
        askPass ask s =
          (s.updTool fun t =>
            { t with
              segs := t.segs.mapIdx fun i h =>
                if s.tool.k ≤ i ∧ i < k then { h with cause := .worn }
                else if i = k then { h with used := h.used + debit } else h
              k := k, charged := t.charged + 1 },
            some grant)) ∧
    ((∀ i h, s.tool.k ≤ i → s.tool.segs[i]? = some h → ¬ pays h) →
      let worn : ToolRec :=
        { s.tool with
          segs := s.tool.segs.mapIdx fun i h =>
            if s.tool.k ≤ i then { h with cause := .worn }
            else if h.cause = .opened then { h with cause := .expired } else h
          k := s.tool.n - 1, hardCount := 0, state := .expired }
      (askPass ask s).2 = none ∧
      (s.mode.options.changer = false ∨ s.tool.rack = [] →
        (askPass ask s).1.tool = worn ∧ (askPass ask s).1.link.flags.toolExpired = true ∧
          (askPass ask s).1.drive = s.drive) ∧
      ∀ e rack, s.mode.options.changer = true → s.tool.rack = e :: rack →
        let op := fun (phase : ChangePhase) (n : Nat) (req : Option ReqNo) =>
          some ({ phase := phase, entry := e, attempts := n, req := req } : ChangerOp)
        (s.mode.mode ≠ .run →
          (askPass ask s).1.tool = { worn with state := .changing, op := op .waiting 0 none } ∧
            (askPass ask s).1.drive = s.drive) ∧
        (s.mode.mode = .run →
          (askPass ask s).1.tool = { worn with state := .changing, op := op .moving 1 (some s.drive.bay) } ∧
            (askPass ask s).1.drive = (s.numbered .bay).drive ∧
            (askPass ask s).1.out.sent = s.out.sent ++ [.request .bay s.drive.bay (.toolChange e)]))

/-- R71, R103 to R106, R66 to R70: a SHALLOW pass below the pass limit leaves its tab PENDING with the pass counted; in RUN the next
pass on it is granted, charged and requested of SPINDLE GANTRY in the same step. Model's choice: log entry 44. -/
def Obligations.NextPassRequested : Prop :=
  ∀ (s : State) (r : PassRec) (j : Job) (b : BoardRec) (t : TabRec) (recipe : Recipe) (entry : BoardEntry) (te : TabEntry)
    (d : BitDesc) (g : Segment),
    s.seq.pass = some r → s.seq.state = .pass → r.held = false → s.mode.mode = .run → r.job ≠ 0 → s.seq.job = r.job →
    s.seq.board = some r.board → s.seq.holdList = [] → s.seq.fixed = none → nextTab r.job r.board s = some r.ring →
    s.job? r.job = some j → j.cause = .none → s.board? r.job r.board = some b → b.state = .cutting →
    s.tab? r.job r.board r.ring = some t → s.jobRecipe? r.job = some recipe →
    s.boardEntry? r.job r.board = some entry → entry.tabs[r.ring]? = some te → t.used + 1 < recipe.passLimit →
    s.tool.state = .fitted → s.tool.desc = some d → s.tool.segs[s.tool.k]? = some g →
    let len := te.w + d.d + 2 * recipe.o
    let debit := ceilDiv (len * recipe.t) 10000
    let feed := effectiveFeed recipe.f s.tool.k s.tool.n
    let z := recipe.t + recipe.b + s.tool.k * d.s + (t.used + 1) * 10
    let grant : Grant :=
      { k := s.tool.k, depth := min z recipe.zc, clamped := recipe.zc < z, pathLen := len, feed := feed,
        time := passTime len feed, watch := watchPeriod (passTime len feed), debit := debit }
    let pos := tabPosition recipe j.orientation entry te
    let counted := { t with used := t.used + 1 }
    debit ≤ g.share - g.used →
    Effect (.passCompletion r.req .shallow false) s
      ((((s.updTab r.job r.board r.ring fun _ => { counted with clamped := t.clamped || grant.clamped }).updTool fun k =>
          { k with
            segs := k.segs.set k.k { g with used := g.used + debit }
            charged := k.charged + 1, hardCount := 0 }).updSeq fun q =>
          { q with
            posX := pos.1, posY := pos.2
            pass := some { r with p := t.used + 2, grant := grant, req := s.drive.spindle } }).numbered .spindle)
      [.tabDone
        { job := r.job, board := r.board, ring := r.ring, held := false, p := r.p, k := r.grant.k, depth := r.grant.depth,
          clamped := r.grant.clamped, ending := .shallow, overrun := false, stopCause := none, decision := .anotherPass,
          tab := counted, damage := b.damage }]
      [.request .spindle s.drive.spindle (.pass pos.1 pos.2 te.dir len grant.depth feed)]

/-- R71, R96 to R98, R103 to R110: in PAUSED a completion counts its pass, decides its tab and marks damage on overrun: the tab
becomes SEVERED or stays PENDING, a first HARD retiring the segment, a second one in a row or one on the last segment expiring
the bit or beginning a change (R120); a FAILED tab makes its board UNSEVERED and its open tabs NOT CUT; the
last tab but the held one puts the board on the hold-pending list. On a held tab (R109, R134) another pass keeps the board
HELD, or with its hold lost seeks the hold again, once, and then makes the board HOLD FAILED; a FAILED held tab makes it
UNSEVERED, and the head lets go of it. A completion that is not that of the pass in flight is not applied. Model's choice:
log entry 44. -/
def Obligations.PassCompleted : Prop :=
  (∀ (s : State) (r : PassRec) (c : LoadClass) (overrun : Bool) (j : Job) (b : BoardRec) (t : TabRec) (recipe : Recipe),
    s.seq.pass = some r → s.seq.state = .pass → r.held = false → s.mode.mode = .paused → r.job ≠ 0 →
    s.seq.job = r.job → s.seq.board = some r.board → s.job? r.job = some j → j.cause = .none →
    s.board? r.job r.board = some b → b.state = .cutting → s.tab? r.job r.board r.ring = some t → t.state = .pending →
    s.jobRecipe? r.job = some recipe →
    let after := fun (st : TabState) => { t with state := st, used := t.used + 1, hard := t.hard || c == .hard }
    let others := fun (p : Option TabState → Prop) =>
      ∀ ring ∈ s.seq.order.dropLast, ring ≠ r.ring → p ((s.tab? r.job r.board ring).map (·.state))
    let kept := fun (u : State) =>
      let u := u.updSeq fun q => { q with pass := none, state := .ready }
      let u := if overrun then u.updBoard r.job r.board fun b => { b with damage := true } else u
      u.updTool fun k =>
        if c = .hard then
          { k with segs := k.segs.modify k.k fun g => { g with cause := .hard }, k := k.k + 1, hardCount := 1 }
        else { k with hardCount := 0 }
    let report := fun (d : Decision) (x : TabRec) => Report.tabDone
      { job := r.job, board := r.board, ring := r.ring, held := false, p := r.p, k := r.grant.k, depth := r.grant.depth,
        clamped := r.grant.clamped
        ending := match c with
          | .clean => .clean
          | .shallow => .shallow
          | .hard => .hard
        overrun := overrun, stopCause := none, decision := d, tab := x, damage := b.damage || overrun }
    (c = .clean → ¬ others (· = some .severed) →
      Effect (.passCompletion r.req c overrun) s
        (kept (s.updTab r.job r.board r.ring fun _ => after .severed)) [report .severed (after .severed)] []) ∧
    (c = .shallow ∨ (c = .hard ∧ s.tool.hardCount = 0 ∧ s.tool.k + 1 < s.tool.n) → t.used + 1 < recipe.passLimit →
      r.ring ∈ s.seq.order.dropLast →
      Effect (.passCompletion r.req c overrun) s
        (kept (s.updTab r.job r.board r.ring fun _ => after .pending)) [report .anotherPass (after .pending)] []) ∧
    (c ≠ .clean → recipe.passLimit ≤ t.used + 1 →
      ∃ (u : State) (x : BoardRec), exec (.passCompletion r.req c overrun) s = .next u ∧ u.seq.pass = none ∧
        u.seq.board = none ∧ u.board? r.job r.board = some x ∧ x.state = .unsevered ∧
        x.damage = (b.damage || overrun) ∧
        x.tabs = (b.tabs.set r.ring (after .failed)).map fun k =>
          if k.state = .pending then { k with state := .notCut } else k) ∧
    (c = .hard → s.tool.hardCount ≠ 0 ∨ s.tool.n ≤ s.tool.k + 1 → t.used + 1 < recipe.passLimit →
      ∃ u, exec (.passCompletion r.req c overrun) s = .next u ∧ u.seq.pass = none ∧
        u.tab? r.job r.board r.ring = some (after .pending) ∧ u.tool.hardCount = 0 ∧
        u.tool.k = s.tool.k ∧
        u.tool.segs = (s.tool.segs.modify s.tool.k fun g => { g with cause := .hard }).map (fun g =>
          if g.cause = .opened then { g with cause := .expired } else g) ∧
        (s.mode.options.changer = false ∨ s.tool.rack = [] →
          u.tool.state = .expired ∧ u.link.flags.toolExpired = true) ∧
        ∀ e rest, s.mode.options.changer = true → s.tool.rack = e :: rest →
          u.tool.state = .changing ∧
            u.tool.op = some { phase := .waiting, entry := e, attempts := 0, req := none }) ∧
    (c = .clean → others (· = some .severed) →
      ∃ (u : State) (x : BoardRec), exec (.passCompletion r.req c overrun) s = .next u ∧ u.seq.pass = none ∧
        u.seq.board = none ∧ u.seq.holdList = s.seq.holdList ++ [r.board] ∧
        u.pick.queue = s.pick.queue ++ [{ job := r.job, board := r.board }] ∧ u.board? r.job r.board = some x ∧
        x.state = .holdPending ∧ x.tabs = b.tabs.set r.ring (after .severed))) ∧
  (∀ (s : State) (r : PassRec) (c : LoadClass) (overrun : Bool) (j : Job) (b : BoardRec) (t : TabRec) (recipe : Recipe),
    s.seq.pass = some r → s.seq.state = .pass → r.held = true → s.mode.mode = .paused → r.job ≠ 0 → s.seq.job = r.job →
    s.job? r.job = some j → j.cause = .none → s.board? r.job r.board = some b → b.state = .held →
    s.tab? r.job r.board r.ring = some t → t.state = .pending → s.jobRecipe? r.job = some recipe → c ≠ .clean →
    let after := fun (st : TabState) => { t with state := st, used := t.used + 1, hard := t.hard || c == .hard }
    let ended := fun (P : State → BoardRec → Prop) =>
      ∃ (u : State) (x : BoardRec), exec (.passCompletion r.req c overrun) s = .next u ∧ u.seq.pass = none ∧
        u.board? r.job r.board = some x ∧ x.damage = (b.damage || overrun) ∧ u.pick.heldPass = false ∧
        u.pick.holdLost = false ∧ P u x
    let shut := fun (tabs : List TabRec) => tabs.map fun k => if k.state = .pending then { k with state := .notCut } else k
    let letGo := fun (u : State) =>
      u.pick.head = .returning ∧ u.pick.served = none ∧ u.pick.demand = false ∧
        u.pick.motion = .inFlight .ret s.drive.pick ∧ { job := r.job, board := r.board } ∉ u.pick.queue ∧
        r.board ∉ u.seq.holdList
    (t.used + 1 < recipe.passLimit →
      (s.pick.holdLost = false → ended fun u x =>
        x.state = .held ∧ x.tabs = b.tabs.set r.ring (after .pending) ∧ u.pick = { s.pick with heldPass := false }) ∧
      (s.pick.holdLost = true → s.pick.retry = false → ended fun u x =>
        x.state = .holdPending ∧ x.tabs = b.tabs.set r.ring (after .pending) ∧
          u.pick =
            { s.pick with
              heldPass := false, holdLost := false, demand := false, retry := true, head := .approach
              motion := .held .approach }) ∧
      (s.pick.holdLost = true → s.pick.retry = true → ended fun u x =>
        x.state = .holdFailed ∧ x.tabs = shut (b.tabs.set r.ring (after .pending)) ∧ u.link.flags.holdFail = true ∧
          letGo u)) ∧
    (recipe.passLimit ≤ t.used + 1 → ended fun u x =>
      x.state = .unsevered ∧ x.tabs = shut (b.tabs.set r.ring (after .failed)) ∧ letGo u)) ∧
  ∀ (s : State) (req : ReqNo) (c : LoadClass) (overrun : Bool),
    s.seq.state ≠ .pass ∨ (∀ r, s.seq.pass = some r → r.req ≠ req) →
    exec (.passCompletion req c overrun) s = .next { s with out := emptyOutput }

/-- R134, R135, R148 to R152: in PAUSED a CLEAN pass on a held tab singles its board, which goes to the lowest entry of the
claim table that names its code and is not passed over, failing those to the lowest whose range holds it, and to the tray
when it is damaged or an X-out; its run is RESERVED and the head moves at once. A board that gets no destination waits on the
head with its outcome's flag raised, a PARK WAIT motion called for (R151, R154): ZONE FULL, UNCLAIMED or TRAY FULL. With the
hold lost during the pass the board is DROPPED. Model's choices: log entries 14, 24. -/
def Obligations.SeveredBoardRouted : Prop :=
  ∀ (s : State) (r : PassRec) (j : Job) (b : BoardRec) (t : TabRec) (recipe : Recipe),
    s.seq.pass = some r → s.seq.state = .pass → r.held = true → s.mode.mode = .paused → r.job ≠ 0 → s.seq.job = r.job →
    s.job? r.job = some j → j.cause = .none → s.board? r.job r.board = some b → b.state = .held →
    s.tab? r.job r.board r.ring = some t → s.jobRecipe? r.job = some recipe →
    let code := s.product r.job r.board
    let ref : BoardRef := { job := r.job, board := r.board }
    let direct := fun (e : ClaimEntry) => e.enabled = true ∧ e.low = code
    let ranged := fun (e : ClaimEntry) => e.enabled = true ∧ e.exactOnly = false ∧ e.low ≤ code ∧ code ≤ e.high
    let offers := fun (e : ClaimEntry) (o : Offer) => tryEntry recipe.hc s e = .ok o
    let first := fun (tried : ClaimEntry → Prop) (o : Offer) =>
      ∃ i : Fin 8, tried s.route.claims[i] ∧ offers s.route.claims[i] o ∧
        ∀ k : Fin 8, k < i → tried s.route.claims[k] → ∀ q, ¬ offers s.route.claims[k] q
    let singled := fun (P : State → BoardRec → Prop) =>
      ∃ u x, exec (.passCompletion r.req .clean false) s = .next u ∧ u.board? r.job r.board = some x ∧
        x.state = .singled ∧ u.pick.carried = some ref ∧ u.pick.served = none ∧ u.pick.head = .transfer ∧ P u x
    let transferred := fun (u : State) (x : BoardRec) (d : Destination) =>
      x.dest = d ∧ u.pick.motion = .inFlight .transfer s.drive.pick ∧
        u.out.sent = [.request .pick s.drive.pick (.transfer d)]
    let toTray := singled fun u x =>
      transferred u x .tray ∧ x.ranged = false ∧ u.route = { s.route with wait := none, trayInProgress := true }
    let waits := fun (o : WaitOutcome) (x : Flag) (bound : Bool) => singled fun u y =>
      y.dest = b.dest ∧ u.pick.motion = .inFlight .parkWait s.drive.pick ∧
        u.out.sent = [.request .pick s.drive.pick .parkWait] ∧ u.link.flags = (s.flagged x).link.flags ∧
        u.route = { s.route with wait := some { ref := ref, product := code, outcome := o, trayBound := bound } }
    let reserved := fun (u : State) (o : Offer) (m : Bool) =>
      let run : RunHead := { job := r.job, board := r.board, product := code, ranged := m, count := o.count, cause := none }
      (u.bayRec o.bay).map[o.first]? = some { state := .reserved, ref := .head run }
    (s.pick.holdLost = false → b.damage = false → b.xout = false →
      (∀ o, first direct o → 1 ≤ o.count → singled fun u x =>
        transferred u x (.run o.bay o.first o.count) ∧ x.ranged = false ∧ reserved u o false) ∧
      ((∀ i : Fin 8, direct s.route.claims[i] → ∀ o, ¬ offers s.route.claims[i] o) →
        (∀ o, first ranged o → 1 ≤ o.count → singled fun u x =>
          transferred u x (.run o.bay o.first o.count) ∧ x.ranged = true ∧ reserved u o true) ∧
        ((∀ i : Fin 8, ranged s.route.claims[i] → ∀ o, ¬ offers s.route.claims[i] o) → s.route.wait = none →
          let names := fun (i : Fin 8) => direct s.route.claims[i] ∨ ranged s.route.claims[i]
          let full := (∃ i, names i) ∧ ∀ i, names i → tryEntry recipe.hc s s.route.claims[i] = .error .noFreeRun
          (full → waits .zoneFull .zoneFull false) ∧
          (¬ full → s.mode.options.tray = false ∨ s.route.trayPolicy = false → waits .unclaimed .unclaimed false) ∧
          (¬ full → s.mode.options.tray = true → s.route.trayPolicy = true →
            (s.route.trayCount < 40 → toTray) ∧ (40 ≤ s.route.trayCount → waits .trayFull .trayFull true))))) ∧
    (s.pick.holdLost = false → b.damage = true ∨ b.xout = true →
      (s.mode.options.tray = true → s.route.trayCount < 40 → toTray) ∧
      (s.route.wait = none → s.mode.options.tray = true → 40 ≤ s.route.trayCount → waits .trayFull .trayFull true) ∧
      (s.route.wait = none → s.mode.options.tray = false → waits .unclaimed .unclaimed true)) ∧
    (s.pick.holdLost = true →
      ∃ u x, exec (.passCompletion r.req .clean false) s = .next u ∧ u.board? r.job r.board = some x ∧
        x.state = .dropped ∧ x.dest = .none ∧ u.link.flags.drop = true ∧ u.pick.head = .returning ∧
        u.pick.served = none ∧ u.pick.demand = false)

/-! ## Stops -/

/-- R74, R73, R111, R192, R141, R1: the expiry of the cut watch raises CUT WATCH and stops the cell, each group's halt with its
next request number; the pass in flight is interrupted, its tab marked and left PENDING, and it is fixed to be made again;
whatever else is in flight is held, halted or interrupted. A hold lost during the interrupted pass is sought again, or given
up where it was retried. With no pass in flight no watch runs. Model's choices: log entries 9, 10, 14,
44. -/
def Obligations.CutWatchStops : Prop :=
  (∀ (s : State) (r : PassRec) (j : Job) (b : BoardRec) (t : TabRec), Cuts s r j b t → s.mode.mode ≠ .stopped →
    let after := ((s.passStopped r).flagged .cutWatch).stoppedWith
      { s.mode with stop := { s.mode.stop with cutWatch := true } }
    Effect .cutWatchExpiry s after
      (s.raising .cutWatch ++ interruptedReport r .cutWatch b t :: s.haltReport ++ [.cellState (cellReport .mode after)])
      (halts s)) ∧
  (∀ (s : State) (r : PassRec) (j : Job) (ref : BoardRef), s.seq.pass = some r → s.job? r.job = some j → j.cause = .none →
    s.mode.mode ≠ .stopped → s.pick.heldPass = true → s.pick.holdLost = true → s.pick.served = some ref →
    s.boardState ref.job ref.board = some .held →
    ∃ t, exec .cutWatchExpiry s = .next t ∧ t.mode.mode = .stopped ∧ t.seq.pass = none ∧ t.pick.heldPass = false ∧
      t.pick.holdLost = false ∧ t.pick.demand = false ∧ t.out.sent = halts s ∧ t.drive = s.numberedAll.drive ∧
      (s.pick.retry = false →
        t.boardState ref.job ref.board = some .holdPending ∧ t.pick.head = .approach ∧ t.pick.retry = true ∧
          t.pick.motion = .held .approach) ∧
      (s.pick.retry = true →
        t.boardState ref.job ref.board = some .holdFailed ∧ t.link.flags.holdFail = true ∧ t.pick.head = .returning ∧
          t.pick.served = none ∧ t.pick.motion = .held .ret)) ∧
  ∀ s : State, s.seq.pass = none → exec .cutWatchExpiry s = .next { s with out := emptyOutput }

/-- R190, R192, R55, R124, R141, R178: the activation of an interlock line adds its cause, the groups are halted, each halt
with its group's next request number (R1), and the mode becomes STOPPED: a shuttle move, a pick motion, a tool change, a
latch motion and the pass in flight, a held-tab pass among them, are interrupted, halted or held, and homing and park motion
in progress abandoned. In STOPPED the cause joins the set. A clearing leaves the cause. Model's choices: log entries 9, 10,
14, 16, 44. -/
def Obligations.InterlockStops : Prop :=
  ∀ (s : State) (line : Interlock),
    let level := fun (v : Bool) (m : ModeRec) => match line with
      | .estop => { m with estopActive := v }
      | .door => { m with doorActive := v }
    let added := match line with
      | .estop => { level true s.mode with stop := { s.mode.stop with estop := true } }
      | .door => { level true s.mode with stop := { s.mode.stop with door := true } }
    let cause : StopCause := match line with
      | .estop => .estop
      | .door => .door
    (s.mode.mode = .stopped →
      let after := s.updMode fun _ => added
      Effect (.interlockActivation line) s after [.cellState (cellReport .cause after)] []) ∧
    (s.mode.mode ≠ .stopped → s.seq.pass = none → s.pick.heldPass = false →
      let after := s.stoppedWith added
      Effect (.interlockActivation line) s after (s.haltReport ++ [.cellState (cellReport .mode after)]) (halts s)) ∧
    (∀ r j b t, s.mode.mode ≠ .stopped → Cuts s r j b t →
      let after := (s.passStopped r).stoppedWith added
      Effect (.interlockActivation line) s after
        (interruptedReport r cause b t :: s.haltReport ++ [.cellState (cellReport .mode after)]) (halts s)) ∧
    (let after := s.updMode (level false)
     Effect (.interlockClearing line) s after [.cellState (cellReport .interlockClear after)] [])

/-- R192, R1: a fault event that concerns no request, or one whose number is in flight on its group and is not the tool
change's, raises DRIVE FAULT, adds the group to the faulted groups and stops the cell; one whose number is in flight nowhere
on its group is not applied. A halt is in flight, and a fault event about it ends it. Model's choices: log entries 7, 9, 10,
14, 16, 26, 44. -/
def Obligations.DriveFaultStops : Prop :=
  (∀ (s : State) (g : Group) (req : Option ReqNo),
    (∀ n, req = some n → s.requestInFlight g n = true ∧ (g = .bay → s.movingChange n = false)) →
    let added :=
      { s.mode with
        stop := { s.mode.stop with driveFault := true }, faulted := s.mode.faulted.set g true
        haltReq := if req ≠ none ∧ s.mode.haltReq.get g = req then s.mode.haltReq.set g none else s.mode.haltReq }
    (s.mode.mode = .stopped →
      let after := (s.flagged .driveFault).updMode fun _ => added
      Effect (.driveFaultEvent g req) s after
        (s.raising .driveFault ++ [.cellState (cellReport .cause after)]) []) ∧
    (s.mode.mode ≠ .stopped → s.seq.pass = none → s.pick.heldPass = false →
      let after := (s.flagged .driveFault).stoppedWith added
      Effect (.driveFaultEvent g req) s after
        (s.raising .driveFault ++ s.haltReport ++ [.cellState (cellReport .mode after)]) (halts s)) ∧
    (∀ r j b t, s.mode.mode ≠ .stopped → Cuts s r j b t →
      let after := ((s.passStopped r).flagged .driveFault).stoppedWith added
      Effect (.driveFaultEvent g req) s after
        (s.raising .driveFault ++ interruptedReport r .driveFault b t :: s.haltReport ++
          [.cellState (cellReport .mode after)]) (halts s))) ∧
  (∀ (s : State) (g : Group) (n : ReqNo), s.mode.haltReq.get g = some n → s.requestInFlight g n = true) ∧
  ∀ (s : State) (g : Group) (n : ReqNo), s.requestInFlight g n = false → s.movingChange n = false →
    exec (.driveFaultEvent g (some n)) s = .next { s with out := emptyOutput }

/-- R189, R197: a line strapped IN whose use is IN sets LINE while it is asserted: from RUN the cell becomes PAUSED, and
with the last cause gone it is RUN again, or in PARKING the park motions start (R195); beside HOST, LINE comes and goes with no
change of mode. With another use only the level follows; a line strapped OUT gives no event. Model's choices: log entry 29.
-/
def Obligations.LineHoldFollowed : Prop :=
  ∀ (s : State) (line : HoldLine) (level : Bool), LinesOk s.mode →
    let c : Instr := if level then .lineHoldAssertion line else .lineHoldDeassertion line
    let dir := match line with
      | .upline => s.mode.straps.upline
      | .downline => s.mode.straps.downline
    let use := match line with
      | .upline => s.mode.options.upUse
      | .downline => s.mode.options.downUse
    let m := match line with
      | .upline => { s.mode with upLevel := level }
      | .downline => { s.mode with downLevel := level }
    let held := (m.options.upUse == .input && m.upLevel) || (m.options.downUse == .input && m.downLevel)
    (dir = .output → exec c s = .next { s with out := emptyOutput }) ∧
    (dir = .input → use ≠ .input → Effect c s (s.updMode fun _ => m) [] []) ∧
    (dir = .input → use = .input → held = s.mode.pause.line →
      let after := s.withMode m
      Effect c s after
        (if after.mode.upLevel = m.upLevel ∧ after.mode.downLevel = m.downLevel then []
        else [.cellState (cellReport .lineOut after)]) []) ∧
    (dir = .input → use = .input → held ≠ s.mode.pause.line →
      let paused := { m with pause := { m.pause with line := held } }
      (s.mode.mode = .homing ∨ s.mode.mode = .stopped ∨ s.mode.mode = .parked ∨
          ((s.mode.mode = .paused ∨ s.mode.mode = .parking) ∧ (held = true ∨ s.mode.pause.host = true)) →
        let after := s.withMode paused
        Effect c s after [.cellState (cellReport .cause after)] []) ∧
      (s.mode.mode = .parking → held = false → s.mode.pause.host = false →
        let after := (s.withMode paused).parksRequested
        Effect c s after [.cellState (cellReport .cause after)] s.parksSent) ∧
      (s.mode.mode = .run → held = true → NothingHeld s →
        let after := s.withMode { paused with mode := .paused }
        Effect c s after [.cellState (cellReport .mode after)] []) ∧
      (s.mode.mode = .paused → held = false → s.mode.pause.host = false →
        ∃ t, exec c s = .next t ∧ t.mode.mode = .run ∧ t.mode.pause.line = false))

/-- R191, R195: each group's completion of its referencing or park motion is counted; the last ends homing, in PAUSED while
a pause cause stands and in RUN otherwise, or makes the mode PARKED. A placement still awaited is settled when homing ends
(R141): over a run by the slots that the sensor shows occupied (R168, R170), over the tray as an expiry, the head returning.
PICK GANTRY's event releases a board that CELL RESET left under vacuum (R143). An event that carries another number is not
applied. Model's choices: log entries 21, 34. -/
def Obligations.HomingAndParkEnd : Prop :=
  (∀ (s : State) (g : Group) (req : ReqNo) (occupied : List Nat), s.mode.mode = .homing →
    s.mode.refReq.get g = some req → s.pick.resetCarry = false ∨ g ≠ .pick →
    let counted := { s.mode with refReq := s.mode.refReq.set g none, referenced := s.mode.referenced.set g true }
    (allGroups (s.mode.referenced.set g true) = false →
      Effect (.referencingComplete g req occupied) s (s.updMode fun _ => counted) [] []) ∧
    (allGroups (s.mode.referenced.set g true) = true → s.pick.awaited = .none → s.mode.pause.any = true →
      NothingHeld s →
      let after := (s.withMode { counted with homing := .inPlace, mode := .paused }).updPick fun p =>
        { p with vacWatch := p.vacWatch || (p.head == .approach && p.demand) }
      Effect (.referencingComplete g req occupied) s after [.cellState (cellReport .mode after)] []) ∧
    (allGroups (s.mode.referenced.set g true) = true → s.pick.awaited = .none → s.mode.pause.any = false →
      ∃ t, exec (.referencingComplete g req occupied) s = .next t ∧ t.mode.mode = .run ∧ t.mode.homing = .inPlace ∧
        allGroups t.mode.referenced = true)) ∧
  (∀ (s : State) (g : Group) (req : ReqNo) (occupied : List Nat) (ref : BoardRef), s.mode.mode = .homing →
    s.mode.refReq.get g = some req → allGroups (s.mode.referenced.set g true) = true → s.pick.carried = some ref →
    s.boardState ref.job ref.board = some .placing →
    let settled := fun (P : State → Prop) =>
      ∃ t, exec (.referencingComplete g req occupied) s = .next t ∧
        t.mode.mode = (if s.mode.pause.any then .paused else .run) ∧ t.pick.head = .returning ∧ t.pick.carried = none ∧
        t.pick.awaited = .none ∧ t.pick.motion = .inFlight .ret s.drive.pick ∧ P t
    (∀ (b : Bay) (first count : Nat) (h : RunHead), s.pick.awaited = .run b first count →
      runHead? (s.bayRec b).map first = some h →
      ((∃ i ∈ occupied, first ≤ i ∧ i < first + count) → settled fun t =>
        t.boardState ref.job ref.board = some .placed ∧ (t.bayRec b).awaited = none ∧
          (t.bayRec b).map[first]? = some { state := .occupied, ref := .head { h with cause := none } }) ∧
      ((∀ i ∈ occupied, ¬ (first ≤ i ∧ i < first + count)) → settled fun t =>
        t.boardState ref.job ref.board = some .lost ∧ t.link.flags.placeLost = true ∧ (t.bayRec b).awaited = none ∧
          (t.bayRec b).map[first]? = some { state := .blocked, ref := .head { h with cause := some .place } })) ∧
    (s.pick.awaited = .tray → settled fun t =>
      t.boardState ref.job ref.board = some .lost ∧ t.link.flags.placeLost = true ∧ t.bay.trayAwaited = false ∧
        t.route.trayInProgress = false)) ∧
  (∀ (s : State) (req : ReqNo) (occupied : List Nat), s.mode.mode = .homing → s.mode.refReq.pick = some req →
    s.pick.resetCarry = true →
    (allGroups (s.mode.referenced.set .pick true) = false →
      Effect (.referencingComplete .pick req occupied) s
        ((s.updMode fun m => { m with refReq := m.refReq.set .pick none, referenced := m.referenced.set .pick true }).updPick
          fun p => { p with demand := false, resetCarry := false }) [] []) ∧
    (allGroups (s.mode.referenced.set .pick true) = true →
      ∃ t, exec (.referencingComplete .pick req occupied) s = .next t ∧ t.pick.demand = false ∧
        t.pick.resetCarry = false)) ∧
  (∀ (s : State) (g : Group) (req : ReqNo) (occupied : List Nat),
    s.mode.mode ≠ .homing ∨ s.mode.refReq.get g ≠ some req →
    exec (.referencingComplete g req occupied) s = .next { s with out := emptyOutput }) ∧
  (∀ (s : State) (g : Group) (req : ReqNo), s.mode.mode = .parking → s.mode.parkReq.get g = some req →
    let counted := { s.mode with parkReq := s.mode.parkReq.set g none, parkDone := s.mode.parkDone.set g true }
    (allGroups (s.mode.parkDone.set g true) = false →
      Effect (.parkComplete g req) s (s.updMode fun _ => counted) [] []) ∧
    (allGroups (s.mode.parkDone.set g true) = true →
      let after := s.withMode { counted with mode := .parked }
      Effect (.parkComplete g req) s after [.cellState (cellReport .mode after)] [])) ∧
  ∀ (s : State) (g : Group) (req : ReqNo), s.mode.mode ≠ .parking ∨ s.mode.parkReq.get g ≠ some req →
    exec (.parkComplete g req) s = .next { s with out := emptyOutput }

/-! ## The pick head -/

/-- R130, R131, R133, R138: vacuum made grants the hold; lost with no pass in flight, or missed once, the hold is sought again; missed
twice, the board is HOLD FAILED; lost in transit, it is DROPPED. -/
def Obligations.VacuumFollowed : Prop :=
  (∀ (s : State) (ref : BoardRef), s.pick.served = some ref →
    let point := pickPoint (s.positions ref.job ref.board)
    let seek := DriveReq.approach ref point.1 point.2
    (s.pick.head = .approach → s.pick.demand = true → s.boardState ref.job ref.board = some .holdPending →
      s.seq.state ≠ .awaitHold →
      Effect .vacuumMade s
        ((s.updBoard ref.job ref.board fun b => { b with state := .held }).updPick fun p =>
          { p with vacWatch := false, head := .holding }) [] []) ∧
    (s.pick.head = .holding → s.pick.demand = true → s.pick.heldPass = true →
      Effect .vacuumLost s (s.updPick fun p => { p with holdLost := true }) [] []) ∧
    (s.pick.head = .holding → s.pick.demand = true → s.pick.heldPass = false → s.pick.retry = false →
      s.boardState ref.job ref.board = some .held →
      Effect .vacuumLost s
        ((s.updBoard ref.job ref.board fun b => { b with state := .holdPending }).headed
          { s.pick with demand := false, retry := true, head := .approach } .approach) []
        (motionSent .approach seek s)) ∧
    (s.pick.head = .approach → s.pick.vacWatch = true → s.pick.retry = false →
      Effect .vacuumWatchExpiry s
        (s.headed { s.pick with demand := false, retry := true, vacWatch := false } .approach) []
        (motionSent .approach seek s)) ∧
    (s.pick.head = .approach → s.pick.vacWatch = true → s.pick.retry = true →
      s.boardState ref.job ref.board = some .holdPending → s.seq.state ≠ .awaitHold →
      ∃ t, exec .vacuumWatchExpiry s = .next t ∧ t.boardState ref.job ref.board = some .holdFailed ∧
        t.link.flags.holdFail = true ∧ t.pick.head = .returning ∧ t.pick.served = none ∧ t.pick.demand = false ∧
        t.pick.queue = s.pick.queue.filter (· != ref))) ∧
  (∀ (s : State) (ref : BoardRef), s.pick.carried = some ref → s.pick.head = .transfer ∨ s.pick.head = .placing →
    s.pick.demand = true → s.boardState ref.job ref.board = some .singled →
    ∃ t, exec .vacuumLost s = .next t ∧ t.boardState ref.job ref.board = some .dropped ∧
      (t.board? ref.job ref.board).map (·.dest) = some .none ∧ t.link.flags.drop = true ∧ t.pick.carried = none ∧
      t.pick.demand = false ∧ t.pick.head = .returning) ∧
  (∀ s : State, s.pick.head ≠ .approach ∨ s.pick.demand = false →
    exec .vacuumMade s = .next { s with out := emptyOutput }) ∧
  (∀ s : State, s.pick.head = .idle ∨ s.pick.head = .approach ∨ s.pick.head = .returning ∨ s.pick.demand = false →
    exec .vacuumLost s = .next { s with out := emptyOutput }) ∧
  ∀ s : State, s.pick.vacWatch = false ∨ s.pick.head ≠ .approach →
    exec .vacuumWatchExpiry s = .next { s with out := emptyOutput }

/-- R130, R135, R136, R140: what each motion's completion does: on the board the demand and the vacuum watch go on; over the
destination the head lowers; lowered, the board is released and its placement awaited; back at the park point the head is IDLE
and in RUN serves the next board. An event that carries another number is not applied. -/
def Obligations.MotionsComplete : Prop :=
  (∀ (s : State) (req : ReqNo),
    (s.pick.motion = .inFlight .approach req →
      Effect (.approachComplete req) s
        (s.updPick fun p => { p with motion := .none, demand := true, vacWatch := true }) [] []) ∧
    (s.pick.motion = .inFlight .transfer req →
      Effect (.transferComplete req) s (s.headed { s.pick with head := .placing } .lower) []
        (motionSent .lower .lower s)) ∧
    (s.pick.motion = .inFlight .parkWait req →
      Effect (.parkWaitComplete req) s (s.updPick fun p => { p with motion := .none }) [] []) ∧
    (∀ (ref : BoardRef) (b : BoardRec), s.pick.motion = .inFlight .lower req → s.pick.carried = some ref →
      s.board? ref.job ref.board = some b → b.state = .singled →
      let released := (s.updBoard ref.job ref.board fun b => { b with state := .placing }).updPick fun p =>
        { p with motion := .none, demand := false, awaited := b.dest, placeWatch := true }
      (∀ bay first count, b.dest = .run bay first count →
        Effect (.lowerComplete req) s
          (released.updBayRec bay fun r => { r with awaited := some { first := first, count := count } }) [] []) ∧
      (b.dest = .tray →
        Effect (.lowerComplete req) s (released.updBay fun c => { c with trayAwaited := true }) [] [])) ∧
    (s.pick.motion = .inFlight .ret req →
      let idle : PickRec :=
        { s.pick with
          head := .idle, motion := .none, demand := false, retry := false, heldPass := false, holdLost := false,
          served := none, carried := none }
      (s.pick.queue = [] ∨ s.mode.mode ≠ .run → Effect (.returnComplete req) s (s.updPick fun _ => idle) [] []) ∧
      ∀ (ref : BoardRef) (rest : List BoardRef), s.pick.queue = ref :: rest → s.mode.mode = .run →
        let point := pickPoint (s.positions ref.job ref.board)
        Effect (.returnComplete req) s (s.headed { idle with served := some ref, head := .approach } .approach) []
          [.request .pick s.drive.pick (.approach ref point.1 point.2)])) ∧
  ∀ (s : State) (req : ReqNo),
    (s.pick.motion ≠ .inFlight .approach req → exec (.approachComplete req) s = .next { s with out := emptyOutput }) ∧
    (s.pick.motion ≠ .inFlight .transfer req → exec (.transferComplete req) s = .next { s with out := emptyOutput }) ∧
    (s.pick.motion ≠ .inFlight .parkWait req → exec (.parkWaitComplete req) s = .next { s with out := emptyOutput }) ∧
    (s.pick.motion ≠ .inFlight .lower req → exec (.lowerComplete req) s = .next { s with out := emptyOutput }) ∧
    (s.pick.motion ≠ .inFlight .ret req → exec (.returnComplete req) s = .next { s with out := emptyOutput })

/-- R137, R168 to R170: a placement that the awaited run's sensor or the tray's confirms makes the board PLACED or REJECTED; one that
neither confirms before the place watch expires makes it LOST, its run BLOCKED with the cause PLACE. Either way the head
returns. -/
def Obligations.PlacementSettled : Prop :=
  (∀ (s : State) (ref : BoardRef), s.pick.carried = some ref → s.boardState ref.job ref.board = some .placing →
    let returning := PickRec.called
      { s.pick with placeWatch := false, awaited := .none, carried := none, head := .returning } .ret s
    (∀ (b : Bay) (slot : Nat) (run : Run) (h : RunHead), s.bayFitted b = true →
      (s.bayRec b).state = .online ∨ (s.bayRec b).state = .draining ∨ (s.bayRec b).state = .released →
      (s.bayRec b).awaited = some run → run.first ≤ slot → slot < run.first + run.count →
      runHead? (s.bayRec b).map run.first = some h →
      ∃ t, exec (.slotSeated b slot) s = .next t ∧ t.boardState ref.job ref.board = some .placed ∧
        t.pick = returning ∧ (t.bayRec b).awaited = none ∧
        (t.bayRec b).map[run.first]? = some { state := .occupied, ref := .head { h with cause := none } }) ∧
    (s.bay.trayAwaited = true →
      ∃ t, exec .trayEntry s = .next t ∧ t.boardState ref.job ref.board = some .rejected ∧ t.pick = returning ∧
        t.bay.trayAwaited = false ∧
        t.route = { s.route with trayCount := s.route.trayCount + 1, trayInProgress := false }) ∧
    (∀ (b : Bay) (first count : Nat) (h : RunHead), s.pick.placeWatch = true → s.pick.awaited = .run b first count →
      runHead? (s.bayRec b).map first = some h →
      ∃ t, exec .placeWatchExpiry s = .next t ∧ t.boardState ref.job ref.board = some .lost ∧ t.pick = returning ∧
        t.link.flags.placeLost = true ∧ (t.bayRec b).awaited = none ∧
        (t.bayRec b).map[first]? = some { state := .blocked, ref := .head { h with cause := some .place } }) ∧
    (s.pick.placeWatch = true → s.pick.awaited = .tray →
      ∃ t, exec .placeWatchExpiry s = .next t ∧ t.boardState ref.job ref.board = some .lost ∧ t.pick = returning ∧
        t.link.flags.placeLost = true ∧ t.bay.trayAwaited = false ∧
        t.route = { s.route with trayInProgress := false })) ∧
  (∀ s : State, s.bay.trayAwaited = false → exec .trayEntry s = .next { s with out := emptyOutput }) ∧
  ∀ s : State, s.pick.placeWatch = false → exec .placeWatchExpiry s = .next { s with out := emptyOutput }

/-! ## The bays -/

/-- R164: the slots a board needs; every claim naming a bay in which it would need more than 8 is passed over for it. R165: the run
found is the lowest place in the zone where all fit, or there is none. -/
def Obligations.RunsFound : Prop :=
  (∀ hc pitch : Nat, (40 ≤ hc ∧ hc ≤ 2500) → (200 ≤ pitch ∧ pitch ≤ 1000) →
    let n := runSize hc pitch
    1 ≤ n ∧ n ≤ 13 ∧ hc + 100 ≤ n * pitch ∧ n * pitch < hc + 100 + pitch ∧
      ∀ (s : State) (e : ClaimEntry) (m : MagRec), 8 < n → (s.bayRec e.bay).mag = some m → m.pitch = pitch →
        (∀ o, tryEntry hc s e ≠ .ok o) ∧
          (s.bayEnabled e.bay = true → (s.bayRec e.bay).state = .online → (m.zones[e.zone]?).isSome = true →
            tryEntry hc s e = .error .runTooLong)) ∧
  ∀ (slots : List Slot) (z : Zone) (n : Nat), 1 ≤ n →
    let fits := fun (i : Nat) => z.first ≤ i ∧ i + n ≤ z.last + 1 ∧
      ∀ k, i ≤ k → k < i + n → ∃ x, slots[k]? = some x ∧ x.state = .free
    (∀ i, findRun slots z n = some i ↔ fits i ∧ ∀ k, fits k → i ≤ k) ∧ (findRun slots z n = none ↔ ∀ i, ¬ fits i)

/-- R160, R176 to R178: a magazine pushed home makes an EMPTY bay PRESENT; drawn out, it makes the bay EMPTY again: expected
from PRESENT and RELEASED, and unexpected, with BAY LOST, from an ONLINE or DRAINING bay. The board of a RESERVED run drawn
out so is resolved again (R139), or, released over the run already, is LOST without PLACE LOST (R177, step 4). A latch
motion's completion is kept. Model's choices: log entries 7, 33, 35. -/
def Obligations.MagazineLinesFollowed : Prop :=
  ∀ (s : State) (b : Bay),
    let r := s.bayRec b
    let gone : BayRec :=
      { r with state := .empty, mag := none, slots := none, swap := .none, latch := .none, stray := 0, line := false }
    let lost := { gone with awaited := none }
    (s.bayFitted b = false →
      exec (.magazinePresent b) s = .next { s with out := emptyOutput } ∧
        exec (.magazineRemoved b) s = .next { s with out := emptyOutput }) ∧
    (s.bayFitted b = true →
      (r.state = .empty →
        let home := { r with state := .present, line := true }
        Effect (.magazinePresent b) s (s.updBayRec b fun _ => home)
          [.bayState (bayReportOf b .magazineIn home)] []) ∧
      (r.state ≠ .empty → Effect (.magazinePresent b) s (s.updBayRec b fun _ => { r with line := true }) [] []) ∧
      (r.state = .empty → Effect (.magazineRemoved b) s (s.updBayRec b fun _ => { r with line := false }) [] []) ∧
      (r.state = .present →
        let left := { r with state := .empty, line := false }
        Effect (.magazineRemoved b) s (s.updBayRec b fun _ => left) [.bayState (bayReportOf b .removed left)] []) ∧
      (∀ m : MagRec, r.mag = some m →
        (r.state = .released → s.mode.mode ≠ .parking →
          Effect (.magazineRemoved b) s (s.updBayRec b fun _ => gone)
            [.magazineOut (magazineOutOf b false r m), .bayState (bayReportOf b .removed gone)] []) ∧
        (r.state = .online ∨ r.state = .draining → anyReserved r.map = false →
          Effect (.magazineRemoved b) s ((s.updBayRec b fun _ => lost).flagged .bayLost)
            (s.raising .bayLost ++
              [.magazineOut (magazineOutOf b true r m), .bayState (bayReportOf b .removedUnexpected lost)]) [])) ∧
      ∀ (i : Nat) (h : RunHead) (x : BoardRec), r.state = .online ∨ r.state = .draining →
        r.map[i]? = some { state := .reserved, ref := .head h } →
        (∀ k h', k < i → r.map[k]? ≠ some { state := .reserved, ref := .head h' }) →
        let ref : BoardRef := { job := h.job, board := h.board }
        s.pick.carried = some ref → s.board? ref.job ref.board = some x →
        ∃ (u : State) (y : BoardRec), exec (.magazineRemoved b) s = .next u ∧ u.bayRec b = lost ∧
          u.link.flags.bayLost = true ∧ u.link.flags.placeLost = s.link.flags.placeLost ∧
          u.board? ref.job ref.board = some y ∧
          (r.awaited = none → y.state = x.state ∧
            ((∃ w, u.route.wait = some w ∧ w.ref = ref ∧ y.dest = .none ∧
                u.pick = PickRec.called { s.pick with head := .transfer } .parkWait s ∧
                u.out.sent = motionSent .parkWait .parkWait s) ∨
              (u.route.wait = none ∧ y.dest ≠ .none ∧ (∀ first count, y.dest ≠ .run b first count) ∧
                u.pick = PickRec.called { s.pick with head := .transfer } .transfer s ∧
                motionSent .transfer (.transfer y.dest) s <:+ u.out.sent))) ∧
          (∀ run, r.awaited = some run → x.state = .placing →
            y.state = .lost ∧ y.dest = x.dest ∧
              u.pick = PickRec.called
                { s.pick with placeWatch := false, awaited := .none, carried := none, head := .returning } .ret s)) ∧
    ∀ req : ReqNo,
      (r.latch = .inFlight req → s.mode.mode ≠ .parking →
        let opened := { r with latch := .done }
        Effect (.latchComplete b req) s (s.updBayRec b fun _ => opened)
          [.bayState (bayReportOf b .latchOpen opened)] []) ∧
      (r.latch ≠ .inFlight req → exec (.latchComplete b req) s = .next { s with out := emptyOutput })

/-- R172: a slot-seated event that no awaited run covers is a stray: the count rises, saturating at 65535, and a FREE slot
is BLOCKED alone; a bay with no accepted magazine takes no such event. Model's choices: log entry 23. -/
def Obligations.StraySlotsBlocked : Prop :=
  ∀ (s : State) (b : Bay) (slot : Nat),
    let r := s.bayRec b
    let accepted := r.state = .online ∨ r.state = .draining ∨ r.state = .released
    (¬ accepted ∨ s.bayFitted b = false → exec (.slotSeated b slot) s = .next { s with out := emptyOutput }) ∧
    (accepted → s.bayFitted b = true → (∀ run, r.awaited = some run → slot < run.first ∨ run.first + run.count ≤ slot) →
      let counted := { r with stray := min 65535 (r.stray + 1) }
      ((∀ x, r.map[slot]? = some x → x.state ≠ .free) →
        Effect (.slotSeated b slot) s (s.updBayRec b fun _ => counted) [] []) ∧
      ∀ x, r.map[slot]? = some x → x.state = .free → s.mode.options.autoSwap = false →
        let blocked := { counted with slots := r.slots.map fun l => l.set slot { state := .blocked, ref := .none } }
        Effect (.slotSeated b slot) s (s.updBayRec b fun _ => blocked)
          [.bayState (bayReportOf b .slotBlocked blocked)] [])

/-- R122, R123: the tool change's completion fits the rack's head; its fault, or the expiry of its watch, discards the
rack's head, empties the record and raises CHANGER FAULT, the watch sending BAY DRIVE an abandon. The fitted bit is a choice
point of a sequencer in TOOL WAIT (R69, R115): outside RUN it becomes READY with its fixed pass kept, and in RUN the fixed pass
is requested. An event for no change is not applied. Model's choices: log entries 3, 18, 25. -/
def Obligations.ChangerEnds : Prop :=
  (∀ (s : State) (op : ChangerOp) (req : ReqNo), s.tool.op = some op → op.phase = .moving → op.req = some req →
    s.mode.mode ≠ .parking →
    let n := max 1 (min op.entry.nreq (op.entry.u / op.entry.s))
    let fitted : ToolRec :=
      { state := .fitted, desc := some op.entry, n := n, q := op.entry.lb / n,
        segs := (segmentShares op.entry).map fun x => { share := x, used := 0, cause := .opened }
        k := 0, charged := 0, hardCount := 0, rack := s.tool.rack.drop 1, op := none }
    let emptied : ToolRec :=
      { state := .none, desc := none, n := 0, q := 0, segs := [], k := 0, charged := 0, hardCount := 0,
        rack := s.tool.rack.drop 1, op := none }
    (s.seq.state ≠ .toolWait →
      Effect (.changerComplete req) s (s.updTool fun _ => fitted) [.toolState (toolReportOf .changeDone fitted)] []) ∧
    (s.seq.state = .toolWait → s.mode.mode ≠ .run → s.seq.job ≠ 0 → s.seq.pass = none →
      s.withdrawing s.seq.job = false →
      Effect (.changerComplete req) s ((s.updTool fun _ => fitted).updSeq fun q => { q with state := .ready })
        [.toolState (toolReportOf .changeDone fitted)] []) ∧
    (∀ (x : FixedPass) (held : Bool) (t : TabRec) (recipe : Recipe) (te : TabEntry), s.mode.mode = .run →
      AwaitsBit s x held t recipe te →
      let grant := firstGrant op.entry n recipe te.w (t.used + 1)
      grant.debit ≤ (segmentShares op.entry).headD 0 →
      Effect (.changerComplete req) s
        ((s.updTool fun _ => fitted.charged1 grant.debit).fixedRequested x held (t.used + 1) grant)
        [.toolState (toolReportOf .changeDone (fitted.charged1 grant.debit))] (fixedSent s x te.dir grant)) ∧
    (s.link.flags.changerFault = false →
      let after := (s.updTool fun _ => emptied).updLink fun l =>
        { l with flags := { l.flags with changerFault := true } }
      let reports := fun (c : ToolCause) =>
        [.flagRaised .changerFault after.link.flags, .toolState (toolReportOf c emptied)]
      Effect (.changerFault req) s after (reports .fault) [] ∧
      Effect (.driveFaultEvent .bay (some req)) s after (reports .fault) [] ∧
      Effect .changerWatchExpiry s after (reports .watch) [.abandonToolChange])) ∧
  (∀ (s : State) (req : ReqNo), s.movingChange req = false →
    exec (.changerComplete req) s = .next { s with out := emptyOutput } ∧
      exec (.changerFault req) s = .next { s with out := emptyOutput }) ∧
  ∀ s : State, s.changerMoving = false → exec .changerWatchExpiry s = .next { s with out := emptyOutput }
end

