-- ==== Sys2Proof/Laws/State.lean ====
section
/-! SUPPORT. One lemma per field per update of a state record, each true by unfolding. -/

namespace Sys2Proof.Machine

variable (s : State)

/-! updLink -/

@[simp] theorem State.updLink_link (f : Link → Link) : (s.updLink f).link = f s.link := rfl
@[simp] theorem State.updLink_mode (f : Link → Link) : (s.updLink f).mode = s.mode := rfl
@[simp] theorem State.updLink_store (f : Link → Link) : (s.updLink f).store = s.store := rfl
@[simp] theorem State.updLink_jobs (f : Link → Link) : (s.updLink f).jobs = s.jobs := rfl
@[simp] theorem State.updLink_shut (f : Link → Link) : (s.updLink f).shut = s.shut := rfl
@[simp] theorem State.updLink_seq (f : Link → Link) : (s.updLink f).seq = s.seq := rfl
@[simp] theorem State.updLink_tool (f : Link → Link) : (s.updLink f).tool = s.tool := rfl
@[simp] theorem State.updLink_pick (f : Link → Link) : (s.updLink f).pick = s.pick := rfl
@[simp] theorem State.updLink_route (f : Link → Link) : (s.updLink f).route = s.route := rfl
@[simp] theorem State.updLink_bay (f : Link → Link) : (s.updLink f).bay = s.bay := rfl
@[simp] theorem State.updLink_drive (f : Link → Link) : (s.updLink f).drive = s.drive := rfl
@[simp] theorem State.updLink_out (f : Link → Link) : (s.updLink f).out = s.out := rfl
@[simp] theorem State.updLink_freeUsed (f : Link → Link) : (s.updLink f).freeUsed = s.freeUsed := rfl
@[simp] theorem State.updLink_pending (f : Link → Link) : (s.updLink f).pending = s.pending := rfl

/-! updMode -/

@[simp] theorem State.updMode_link (f : ModeRec → ModeRec) : (s.updMode f).link = s.link := rfl
@[simp] theorem State.updMode_mode (f : ModeRec → ModeRec) : (s.updMode f).mode = f s.mode := rfl
@[simp] theorem State.updMode_store (f : ModeRec → ModeRec) : (s.updMode f).store = s.store := rfl
@[simp] theorem State.updMode_jobs (f : ModeRec → ModeRec) : (s.updMode f).jobs = s.jobs := rfl
@[simp] theorem State.updMode_shut (f : ModeRec → ModeRec) : (s.updMode f).shut = s.shut := rfl
@[simp] theorem State.updMode_seq (f : ModeRec → ModeRec) : (s.updMode f).seq = s.seq := rfl
@[simp] theorem State.updMode_tool (f : ModeRec → ModeRec) : (s.updMode f).tool = s.tool := rfl
@[simp] theorem State.updMode_pick (f : ModeRec → ModeRec) : (s.updMode f).pick = s.pick := rfl
@[simp] theorem State.updMode_route (f : ModeRec → ModeRec) : (s.updMode f).route = s.route := rfl
@[simp] theorem State.updMode_bay (f : ModeRec → ModeRec) : (s.updMode f).bay = s.bay := rfl
@[simp] theorem State.updMode_drive (f : ModeRec → ModeRec) : (s.updMode f).drive = s.drive := rfl
@[simp] theorem State.updMode_out (f : ModeRec → ModeRec) : (s.updMode f).out = s.out := rfl
@[simp] theorem State.updMode_freeUsed (f : ModeRec → ModeRec) : (s.updMode f).freeUsed = s.freeUsed := rfl
@[simp] theorem State.updMode_pending (f : ModeRec → ModeRec) : (s.updMode f).pending = s.pending := rfl

/-! updStore -/

@[simp] theorem State.updStore_link (f : Store → Store) : (s.updStore f).link = s.link := rfl
@[simp] theorem State.updStore_mode (f : Store → Store) : (s.updStore f).mode = s.mode := rfl
@[simp] theorem State.updStore_store (f : Store → Store) : (s.updStore f).store = f s.store := rfl
@[simp] theorem State.updStore_jobs (f : Store → Store) : (s.updStore f).jobs = s.jobs := rfl
@[simp] theorem State.updStore_shut (f : Store → Store) : (s.updStore f).shut = s.shut := rfl
@[simp] theorem State.updStore_seq (f : Store → Store) : (s.updStore f).seq = s.seq := rfl
@[simp] theorem State.updStore_tool (f : Store → Store) : (s.updStore f).tool = s.tool := rfl
@[simp] theorem State.updStore_pick (f : Store → Store) : (s.updStore f).pick = s.pick := rfl
@[simp] theorem State.updStore_route (f : Store → Store) : (s.updStore f).route = s.route := rfl
@[simp] theorem State.updStore_bay (f : Store → Store) : (s.updStore f).bay = s.bay := rfl
@[simp] theorem State.updStore_drive (f : Store → Store) : (s.updStore f).drive = s.drive := rfl
@[simp] theorem State.updStore_out (f : Store → Store) : (s.updStore f).out = s.out := rfl
@[simp] theorem State.updStore_freeUsed (f : Store → Store) : (s.updStore f).freeUsed = s.freeUsed := rfl
@[simp] theorem State.updStore_pending (f : Store → Store) : (s.updStore f).pending = s.pending := rfl

/-! updJobs -/

@[simp] theorem State.updJobs_link (f : List Job → List Job) : (s.updJobs f).link = s.link := rfl
@[simp] theorem State.updJobs_mode (f : List Job → List Job) : (s.updJobs f).mode = s.mode := rfl
@[simp] theorem State.updJobs_store (f : List Job → List Job) : (s.updJobs f).store = s.store := rfl
@[simp] theorem State.updJobs_jobs (f : List Job → List Job) : (s.updJobs f).jobs = f s.jobs := rfl
@[simp] theorem State.updJobs_shut (f : List Job → List Job) : (s.updJobs f).shut = s.shut := rfl
@[simp] theorem State.updJobs_seq (f : List Job → List Job) : (s.updJobs f).seq = s.seq := rfl
@[simp] theorem State.updJobs_tool (f : List Job → List Job) : (s.updJobs f).tool = s.tool := rfl
@[simp] theorem State.updJobs_pick (f : List Job → List Job) : (s.updJobs f).pick = s.pick := rfl
@[simp] theorem State.updJobs_route (f : List Job → List Job) : (s.updJobs f).route = s.route := rfl
@[simp] theorem State.updJobs_bay (f : List Job → List Job) : (s.updJobs f).bay = s.bay := rfl
@[simp] theorem State.updJobs_drive (f : List Job → List Job) : (s.updJobs f).drive = s.drive := rfl
@[simp] theorem State.updJobs_out (f : List Job → List Job) : (s.updJobs f).out = s.out := rfl
@[simp] theorem State.updJobs_freeUsed (f : List Job → List Job) : (s.updJobs f).freeUsed = s.freeUsed := rfl
@[simp] theorem State.updJobs_pending (f : List Job → List Job) : (s.updJobs f).pending = s.pending := rfl

/-! updShut -/

@[simp] theorem State.updShut_link (f : ShuttleCtl → ShuttleCtl) : (s.updShut f).link = s.link := rfl
@[simp] theorem State.updShut_mode (f : ShuttleCtl → ShuttleCtl) : (s.updShut f).mode = s.mode := rfl
@[simp] theorem State.updShut_store (f : ShuttleCtl → ShuttleCtl) : (s.updShut f).store = s.store := rfl
@[simp] theorem State.updShut_jobs (f : ShuttleCtl → ShuttleCtl) : (s.updShut f).jobs = s.jobs := rfl
@[simp] theorem State.updShut_shut (f : ShuttleCtl → ShuttleCtl) : (s.updShut f).shut = f s.shut := rfl
@[simp] theorem State.updShut_seq (f : ShuttleCtl → ShuttleCtl) : (s.updShut f).seq = s.seq := rfl
@[simp] theorem State.updShut_tool (f : ShuttleCtl → ShuttleCtl) : (s.updShut f).tool = s.tool := rfl
@[simp] theorem State.updShut_pick (f : ShuttleCtl → ShuttleCtl) : (s.updShut f).pick = s.pick := rfl
@[simp] theorem State.updShut_route (f : ShuttleCtl → ShuttleCtl) : (s.updShut f).route = s.route := rfl
@[simp] theorem State.updShut_bay (f : ShuttleCtl → ShuttleCtl) : (s.updShut f).bay = s.bay := rfl
@[simp] theorem State.updShut_drive (f : ShuttleCtl → ShuttleCtl) : (s.updShut f).drive = s.drive := rfl
@[simp] theorem State.updShut_out (f : ShuttleCtl → ShuttleCtl) : (s.updShut f).out = s.out := rfl
@[simp] theorem State.updShut_freeUsed (f : ShuttleCtl → ShuttleCtl) : (s.updShut f).freeUsed = s.freeUsed := rfl
@[simp] theorem State.updShut_pending (f : ShuttleCtl → ShuttleCtl) : (s.updShut f).pending = s.pending := rfl

/-! updSeq -/

@[simp] theorem State.updSeq_link (f : SeqRec → SeqRec) : (s.updSeq f).link = s.link := rfl
@[simp] theorem State.updSeq_mode (f : SeqRec → SeqRec) : (s.updSeq f).mode = s.mode := rfl
@[simp] theorem State.updSeq_store (f : SeqRec → SeqRec) : (s.updSeq f).store = s.store := rfl
@[simp] theorem State.updSeq_jobs (f : SeqRec → SeqRec) : (s.updSeq f).jobs = s.jobs := rfl
@[simp] theorem State.updSeq_shut (f : SeqRec → SeqRec) : (s.updSeq f).shut = s.shut := rfl
@[simp] theorem State.updSeq_seq (f : SeqRec → SeqRec) : (s.updSeq f).seq = f s.seq := rfl
@[simp] theorem State.updSeq_tool (f : SeqRec → SeqRec) : (s.updSeq f).tool = s.tool := rfl
@[simp] theorem State.updSeq_pick (f : SeqRec → SeqRec) : (s.updSeq f).pick = s.pick := rfl
@[simp] theorem State.updSeq_route (f : SeqRec → SeqRec) : (s.updSeq f).route = s.route := rfl
@[simp] theorem State.updSeq_bay (f : SeqRec → SeqRec) : (s.updSeq f).bay = s.bay := rfl
@[simp] theorem State.updSeq_drive (f : SeqRec → SeqRec) : (s.updSeq f).drive = s.drive := rfl
@[simp] theorem State.updSeq_out (f : SeqRec → SeqRec) : (s.updSeq f).out = s.out := rfl
@[simp] theorem State.updSeq_freeUsed (f : SeqRec → SeqRec) : (s.updSeq f).freeUsed = s.freeUsed := rfl
@[simp] theorem State.updSeq_pending (f : SeqRec → SeqRec) : (s.updSeq f).pending = s.pending := rfl

/-! updTool -/

@[simp] theorem State.updTool_link (f : ToolRec → ToolRec) : (s.updTool f).link = s.link := rfl
@[simp] theorem State.updTool_mode (f : ToolRec → ToolRec) : (s.updTool f).mode = s.mode := rfl
@[simp] theorem State.updTool_store (f : ToolRec → ToolRec) : (s.updTool f).store = s.store := rfl
@[simp] theorem State.updTool_jobs (f : ToolRec → ToolRec) : (s.updTool f).jobs = s.jobs := rfl
@[simp] theorem State.updTool_shut (f : ToolRec → ToolRec) : (s.updTool f).shut = s.shut := rfl
@[simp] theorem State.updTool_seq (f : ToolRec → ToolRec) : (s.updTool f).seq = s.seq := rfl
@[simp] theorem State.updTool_tool (f : ToolRec → ToolRec) : (s.updTool f).tool = f s.tool := rfl
@[simp] theorem State.updTool_pick (f : ToolRec → ToolRec) : (s.updTool f).pick = s.pick := rfl
@[simp] theorem State.updTool_route (f : ToolRec → ToolRec) : (s.updTool f).route = s.route := rfl
@[simp] theorem State.updTool_bay (f : ToolRec → ToolRec) : (s.updTool f).bay = s.bay := rfl
@[simp] theorem State.updTool_drive (f : ToolRec → ToolRec) : (s.updTool f).drive = s.drive := rfl
@[simp] theorem State.updTool_out (f : ToolRec → ToolRec) : (s.updTool f).out = s.out := rfl
@[simp] theorem State.updTool_freeUsed (f : ToolRec → ToolRec) : (s.updTool f).freeUsed = s.freeUsed := rfl
@[simp] theorem State.updTool_pending (f : ToolRec → ToolRec) : (s.updTool f).pending = s.pending := rfl

/-! updPick -/

@[simp] theorem State.updPick_link (f : PickRec → PickRec) : (s.updPick f).link = s.link := rfl
@[simp] theorem State.updPick_mode (f : PickRec → PickRec) : (s.updPick f).mode = s.mode := rfl
@[simp] theorem State.updPick_store (f : PickRec → PickRec) : (s.updPick f).store = s.store := rfl
@[simp] theorem State.updPick_jobs (f : PickRec → PickRec) : (s.updPick f).jobs = s.jobs := rfl
@[simp] theorem State.updPick_shut (f : PickRec → PickRec) : (s.updPick f).shut = s.shut := rfl
@[simp] theorem State.updPick_seq (f : PickRec → PickRec) : (s.updPick f).seq = s.seq := rfl
@[simp] theorem State.updPick_tool (f : PickRec → PickRec) : (s.updPick f).tool = s.tool := rfl
@[simp] theorem State.updPick_pick (f : PickRec → PickRec) : (s.updPick f).pick = f s.pick := rfl
@[simp] theorem State.updPick_route (f : PickRec → PickRec) : (s.updPick f).route = s.route := rfl
@[simp] theorem State.updPick_bay (f : PickRec → PickRec) : (s.updPick f).bay = s.bay := rfl
@[simp] theorem State.updPick_drive (f : PickRec → PickRec) : (s.updPick f).drive = s.drive := rfl
@[simp] theorem State.updPick_out (f : PickRec → PickRec) : (s.updPick f).out = s.out := rfl
@[simp] theorem State.updPick_freeUsed (f : PickRec → PickRec) : (s.updPick f).freeUsed = s.freeUsed := rfl
@[simp] theorem State.updPick_pending (f : PickRec → PickRec) : (s.updPick f).pending = s.pending := rfl

/-! updRoute -/

@[simp] theorem State.updRoute_link (f : RouteRec → RouteRec) : (s.updRoute f).link = s.link := rfl
@[simp] theorem State.updRoute_mode (f : RouteRec → RouteRec) : (s.updRoute f).mode = s.mode := rfl
@[simp] theorem State.updRoute_store (f : RouteRec → RouteRec) : (s.updRoute f).store = s.store := rfl
@[simp] theorem State.updRoute_jobs (f : RouteRec → RouteRec) : (s.updRoute f).jobs = s.jobs := rfl
@[simp] theorem State.updRoute_shut (f : RouteRec → RouteRec) : (s.updRoute f).shut = s.shut := rfl
@[simp] theorem State.updRoute_seq (f : RouteRec → RouteRec) : (s.updRoute f).seq = s.seq := rfl
@[simp] theorem State.updRoute_tool (f : RouteRec → RouteRec) : (s.updRoute f).tool = s.tool := rfl
@[simp] theorem State.updRoute_pick (f : RouteRec → RouteRec) : (s.updRoute f).pick = s.pick := rfl
@[simp] theorem State.updRoute_route (f : RouteRec → RouteRec) : (s.updRoute f).route = f s.route := rfl
@[simp] theorem State.updRoute_bay (f : RouteRec → RouteRec) : (s.updRoute f).bay = s.bay := rfl
@[simp] theorem State.updRoute_drive (f : RouteRec → RouteRec) : (s.updRoute f).drive = s.drive := rfl
@[simp] theorem State.updRoute_out (f : RouteRec → RouteRec) : (s.updRoute f).out = s.out := rfl
@[simp] theorem State.updRoute_freeUsed (f : RouteRec → RouteRec) : (s.updRoute f).freeUsed = s.freeUsed := rfl
@[simp] theorem State.updRoute_pending (f : RouteRec → RouteRec) : (s.updRoute f).pending = s.pending := rfl

/-! updBay -/

@[simp] theorem State.updBay_link (f : BayCtl → BayCtl) : (s.updBay f).link = s.link := rfl
@[simp] theorem State.updBay_mode (f : BayCtl → BayCtl) : (s.updBay f).mode = s.mode := rfl
@[simp] theorem State.updBay_store (f : BayCtl → BayCtl) : (s.updBay f).store = s.store := rfl
@[simp] theorem State.updBay_jobs (f : BayCtl → BayCtl) : (s.updBay f).jobs = s.jobs := rfl
@[simp] theorem State.updBay_shut (f : BayCtl → BayCtl) : (s.updBay f).shut = s.shut := rfl
@[simp] theorem State.updBay_seq (f : BayCtl → BayCtl) : (s.updBay f).seq = s.seq := rfl
@[simp] theorem State.updBay_tool (f : BayCtl → BayCtl) : (s.updBay f).tool = s.tool := rfl
@[simp] theorem State.updBay_pick (f : BayCtl → BayCtl) : (s.updBay f).pick = s.pick := rfl
@[simp] theorem State.updBay_route (f : BayCtl → BayCtl) : (s.updBay f).route = s.route := rfl
@[simp] theorem State.updBay_bay (f : BayCtl → BayCtl) : (s.updBay f).bay = f s.bay := rfl
@[simp] theorem State.updBay_drive (f : BayCtl → BayCtl) : (s.updBay f).drive = s.drive := rfl
@[simp] theorem State.updBay_out (f : BayCtl → BayCtl) : (s.updBay f).out = s.out := rfl
@[simp] theorem State.updBay_freeUsed (f : BayCtl → BayCtl) : (s.updBay f).freeUsed = s.freeUsed := rfl
@[simp] theorem State.updBay_pending (f : BayCtl → BayCtl) : (s.updBay f).pending = s.pending := rfl

/-! updDrive -/

@[simp] theorem State.updDrive_link (f : PerGroup ReqNo → PerGroup ReqNo) : (s.updDrive f).link = s.link := rfl
@[simp] theorem State.updDrive_mode (f : PerGroup ReqNo → PerGroup ReqNo) : (s.updDrive f).mode = s.mode := rfl
@[simp] theorem State.updDrive_store (f : PerGroup ReqNo → PerGroup ReqNo) : (s.updDrive f).store = s.store := rfl
@[simp] theorem State.updDrive_jobs (f : PerGroup ReqNo → PerGroup ReqNo) : (s.updDrive f).jobs = s.jobs := rfl
@[simp] theorem State.updDrive_shut (f : PerGroup ReqNo → PerGroup ReqNo) : (s.updDrive f).shut = s.shut := rfl
@[simp] theorem State.updDrive_seq (f : PerGroup ReqNo → PerGroup ReqNo) : (s.updDrive f).seq = s.seq := rfl
@[simp] theorem State.updDrive_tool (f : PerGroup ReqNo → PerGroup ReqNo) : (s.updDrive f).tool = s.tool := rfl
@[simp] theorem State.updDrive_pick (f : PerGroup ReqNo → PerGroup ReqNo) : (s.updDrive f).pick = s.pick := rfl
@[simp] theorem State.updDrive_route (f : PerGroup ReqNo → PerGroup ReqNo) : (s.updDrive f).route = s.route := rfl
@[simp] theorem State.updDrive_bay (f : PerGroup ReqNo → PerGroup ReqNo) : (s.updDrive f).bay = s.bay := rfl
@[simp] theorem State.updDrive_drive (f : PerGroup ReqNo → PerGroup ReqNo) : (s.updDrive f).drive = f s.drive := rfl
@[simp] theorem State.updDrive_out (f : PerGroup ReqNo → PerGroup ReqNo) : (s.updDrive f).out = s.out := rfl
@[simp] theorem State.updDrive_freeUsed (f : PerGroup ReqNo → PerGroup ReqNo) : (s.updDrive f).freeUsed = s.freeUsed := rfl
@[simp] theorem State.updDrive_pending (f : PerGroup ReqNo → PerGroup ReqNo) : (s.updDrive f).pending = s.pending := rfl

/-! updOut -/

@[simp] theorem State.updOut_link (f : Output → Output) : (s.updOut f).link = s.link := rfl
@[simp] theorem State.updOut_mode (f : Output → Output) : (s.updOut f).mode = s.mode := rfl
@[simp] theorem State.updOut_store (f : Output → Output) : (s.updOut f).store = s.store := rfl
@[simp] theorem State.updOut_jobs (f : Output → Output) : (s.updOut f).jobs = s.jobs := rfl
@[simp] theorem State.updOut_shut (f : Output → Output) : (s.updOut f).shut = s.shut := rfl
@[simp] theorem State.updOut_seq (f : Output → Output) : (s.updOut f).seq = s.seq := rfl
@[simp] theorem State.updOut_tool (f : Output → Output) : (s.updOut f).tool = s.tool := rfl
@[simp] theorem State.updOut_pick (f : Output → Output) : (s.updOut f).pick = s.pick := rfl
@[simp] theorem State.updOut_route (f : Output → Output) : (s.updOut f).route = s.route := rfl
@[simp] theorem State.updOut_bay (f : Output → Output) : (s.updOut f).bay = s.bay := rfl
@[simp] theorem State.updOut_drive (f : Output → Output) : (s.updOut f).drive = s.drive := rfl
@[simp] theorem State.updOut_out (f : Output → Output) : (s.updOut f).out = f s.out := rfl
@[simp] theorem State.updOut_freeUsed (f : Output → Output) : (s.updOut f).freeUsed = s.freeUsed := rfl
@[simp] theorem State.updOut_pending (f : Output → Output) : (s.updOut f).pending = s.pending := rfl

/-! updFreeUsed -/

@[simp] theorem State.updFreeUsed_link (f : Nat → Nat) : (s.updFreeUsed f).link = s.link := rfl
@[simp] theorem State.updFreeUsed_mode (f : Nat → Nat) : (s.updFreeUsed f).mode = s.mode := rfl
@[simp] theorem State.updFreeUsed_store (f : Nat → Nat) : (s.updFreeUsed f).store = s.store := rfl
@[simp] theorem State.updFreeUsed_jobs (f : Nat → Nat) : (s.updFreeUsed f).jobs = s.jobs := rfl
@[simp] theorem State.updFreeUsed_shut (f : Nat → Nat) : (s.updFreeUsed f).shut = s.shut := rfl
@[simp] theorem State.updFreeUsed_seq (f : Nat → Nat) : (s.updFreeUsed f).seq = s.seq := rfl
@[simp] theorem State.updFreeUsed_tool (f : Nat → Nat) : (s.updFreeUsed f).tool = s.tool := rfl
@[simp] theorem State.updFreeUsed_pick (f : Nat → Nat) : (s.updFreeUsed f).pick = s.pick := rfl
@[simp] theorem State.updFreeUsed_route (f : Nat → Nat) : (s.updFreeUsed f).route = s.route := rfl
@[simp] theorem State.updFreeUsed_bay (f : Nat → Nat) : (s.updFreeUsed f).bay = s.bay := rfl
@[simp] theorem State.updFreeUsed_drive (f : Nat → Nat) : (s.updFreeUsed f).drive = s.drive := rfl
@[simp] theorem State.updFreeUsed_out (f : Nat → Nat) : (s.updFreeUsed f).out = s.out := rfl
@[simp] theorem State.updFreeUsed_freeUsed (f : Nat → Nat) : (s.updFreeUsed f).freeUsed = f s.freeUsed := rfl
@[simp] theorem State.updFreeUsed_pending (f : Nat → Nat) : (s.updFreeUsed f).pending = s.pending := rfl

/-! updShuttle -/

@[simp] theorem State.updShuttle_link (sh : Shuttle) (f : ShuttleRec → ShuttleRec) : (s.updShuttle sh f).link = s.link := rfl
@[simp] theorem State.updShuttle_mode (sh : Shuttle) (f : ShuttleRec → ShuttleRec) : (s.updShuttle sh f).mode = s.mode := rfl
@[simp] theorem State.updShuttle_store (sh : Shuttle) (f : ShuttleRec → ShuttleRec) : (s.updShuttle sh f).store = s.store := rfl
@[simp] theorem State.updShuttle_jobs (sh : Shuttle) (f : ShuttleRec → ShuttleRec) : (s.updShuttle sh f).jobs = s.jobs := rfl
theorem State.updShuttle_shut (sh : Shuttle) (f : ShuttleRec → ShuttleRec) : (s.updShuttle sh f).shut = s.shut.set sh (f (s.shut.get sh)) := rfl
@[simp] theorem State.updShuttle_seq (sh : Shuttle) (f : ShuttleRec → ShuttleRec) : (s.updShuttle sh f).seq = s.seq := rfl
@[simp] theorem State.updShuttle_tool (sh : Shuttle) (f : ShuttleRec → ShuttleRec) : (s.updShuttle sh f).tool = s.tool := rfl
@[simp] theorem State.updShuttle_pick (sh : Shuttle) (f : ShuttleRec → ShuttleRec) : (s.updShuttle sh f).pick = s.pick := rfl
@[simp] theorem State.updShuttle_route (sh : Shuttle) (f : ShuttleRec → ShuttleRec) : (s.updShuttle sh f).route = s.route := rfl
@[simp] theorem State.updShuttle_bay (sh : Shuttle) (f : ShuttleRec → ShuttleRec) : (s.updShuttle sh f).bay = s.bay := rfl
@[simp] theorem State.updShuttle_drive (sh : Shuttle) (f : ShuttleRec → ShuttleRec) : (s.updShuttle sh f).drive = s.drive := rfl
@[simp] theorem State.updShuttle_out (sh : Shuttle) (f : ShuttleRec → ShuttleRec) : (s.updShuttle sh f).out = s.out := rfl
@[simp] theorem State.updShuttle_freeUsed (sh : Shuttle) (f : ShuttleRec → ShuttleRec) : (s.updShuttle sh f).freeUsed = s.freeUsed := rfl
@[simp] theorem State.updShuttle_pending (sh : Shuttle) (f : ShuttleRec → ShuttleRec) : (s.updShuttle sh f).pending = s.pending := rfl

/-! updBayRec -/

@[simp] theorem State.updBayRec_link (b : Bay) (f : BayRec → BayRec) : (s.updBayRec b f).link = s.link := rfl
@[simp] theorem State.updBayRec_mode (b : Bay) (f : BayRec → BayRec) : (s.updBayRec b f).mode = s.mode := rfl
@[simp] theorem State.updBayRec_store (b : Bay) (f : BayRec → BayRec) : (s.updBayRec b f).store = s.store := rfl
@[simp] theorem State.updBayRec_jobs (b : Bay) (f : BayRec → BayRec) : (s.updBayRec b f).jobs = s.jobs := rfl
@[simp] theorem State.updBayRec_shut (b : Bay) (f : BayRec → BayRec) : (s.updBayRec b f).shut = s.shut := rfl
@[simp] theorem State.updBayRec_seq (b : Bay) (f : BayRec → BayRec) : (s.updBayRec b f).seq = s.seq := rfl
@[simp] theorem State.updBayRec_tool (b : Bay) (f : BayRec → BayRec) : (s.updBayRec b f).tool = s.tool := rfl
@[simp] theorem State.updBayRec_pick (b : Bay) (f : BayRec → BayRec) : (s.updBayRec b f).pick = s.pick := rfl
@[simp] theorem State.updBayRec_route (b : Bay) (f : BayRec → BayRec) : (s.updBayRec b f).route = s.route := rfl
theorem State.updBayRec_bay (b : Bay) (f : BayRec → BayRec) : (s.updBayRec b f).bay = { s.bay with bays := s.bay.bays.set b.val (f s.bay.bays[b]) b.isLt } := rfl
@[simp] theorem State.updBayRec_drive (b : Bay) (f : BayRec → BayRec) : (s.updBayRec b f).drive = s.drive := rfl
@[simp] theorem State.updBayRec_out (b : Bay) (f : BayRec → BayRec) : (s.updBayRec b f).out = s.out := rfl
@[simp] theorem State.updBayRec_freeUsed (b : Bay) (f : BayRec → BayRec) : (s.updBayRec b f).freeUsed = s.freeUsed := rfl
@[simp] theorem State.updBayRec_pending (b : Bay) (f : BayRec → BayRec) : (s.updBayRec b f).pending = s.pending := rfl

/-! updJob -/

@[simp] theorem State.updJob_link (tag : Nat) (f : Job → Job) : (s.updJob tag f).link = s.link := rfl
@[simp] theorem State.updJob_mode (tag : Nat) (f : Job → Job) : (s.updJob tag f).mode = s.mode := rfl
@[simp] theorem State.updJob_store (tag : Nat) (f : Job → Job) : (s.updJob tag f).store = s.store := rfl
theorem State.updJob_jobs (tag : Nat) (f : Job → Job) : (s.updJob tag f).jobs = s.jobs.map fun j => if j.tag == tag then f j else j := rfl
@[simp] theorem State.updJob_shut (tag : Nat) (f : Job → Job) : (s.updJob tag f).shut = s.shut := rfl
@[simp] theorem State.updJob_seq (tag : Nat) (f : Job → Job) : (s.updJob tag f).seq = s.seq := rfl
@[simp] theorem State.updJob_tool (tag : Nat) (f : Job → Job) : (s.updJob tag f).tool = s.tool := rfl
@[simp] theorem State.updJob_pick (tag : Nat) (f : Job → Job) : (s.updJob tag f).pick = s.pick := rfl
@[simp] theorem State.updJob_route (tag : Nat) (f : Job → Job) : (s.updJob tag f).route = s.route := rfl
@[simp] theorem State.updJob_bay (tag : Nat) (f : Job → Job) : (s.updJob tag f).bay = s.bay := rfl
@[simp] theorem State.updJob_drive (tag : Nat) (f : Job → Job) : (s.updJob tag f).drive = s.drive := rfl
@[simp] theorem State.updJob_out (tag : Nat) (f : Job → Job) : (s.updJob tag f).out = s.out := rfl
@[simp] theorem State.updJob_freeUsed (tag : Nat) (f : Job → Job) : (s.updJob tag f).freeUsed = s.freeUsed := rfl
@[simp] theorem State.updJob_pending (tag : Nat) (f : Job → Job) : (s.updJob tag f).pending = s.pending := rfl

/-! updBoard -/

@[simp] theorem State.updBoard_link (tag i : Nat) (f : BoardRec → BoardRec) : (s.updBoard tag i f).link = s.link := rfl
@[simp] theorem State.updBoard_mode (tag i : Nat) (f : BoardRec → BoardRec) : (s.updBoard tag i f).mode = s.mode := rfl
@[simp] theorem State.updBoard_store (tag i : Nat) (f : BoardRec → BoardRec) : (s.updBoard tag i f).store = s.store := rfl
@[simp] theorem State.updBoard_shut (tag i : Nat) (f : BoardRec → BoardRec) : (s.updBoard tag i f).shut = s.shut := rfl
@[simp] theorem State.updBoard_seq (tag i : Nat) (f : BoardRec → BoardRec) : (s.updBoard tag i f).seq = s.seq := rfl
@[simp] theorem State.updBoard_tool (tag i : Nat) (f : BoardRec → BoardRec) : (s.updBoard tag i f).tool = s.tool := rfl
@[simp] theorem State.updBoard_pick (tag i : Nat) (f : BoardRec → BoardRec) : (s.updBoard tag i f).pick = s.pick := rfl
@[simp] theorem State.updBoard_route (tag i : Nat) (f : BoardRec → BoardRec) : (s.updBoard tag i f).route = s.route := rfl
@[simp] theorem State.updBoard_bay (tag i : Nat) (f : BoardRec → BoardRec) : (s.updBoard tag i f).bay = s.bay := rfl
@[simp] theorem State.updBoard_drive (tag i : Nat) (f : BoardRec → BoardRec) : (s.updBoard tag i f).drive = s.drive := rfl
@[simp] theorem State.updBoard_out (tag i : Nat) (f : BoardRec → BoardRec) : (s.updBoard tag i f).out = s.out := rfl
@[simp] theorem State.updBoard_freeUsed (tag i : Nat) (f : BoardRec → BoardRec) : (s.updBoard tag i f).freeUsed = s.freeUsed := rfl
@[simp] theorem State.updBoard_pending (tag i : Nat) (f : BoardRec → BoardRec) : (s.updBoard tag i f).pending = s.pending := rfl

/-! updTab -/

@[simp] theorem State.updTab_link (tag i ring : Nat) (f : TabRec → TabRec) : (s.updTab tag i ring f).link = s.link := rfl
@[simp] theorem State.updTab_mode (tag i ring : Nat) (f : TabRec → TabRec) : (s.updTab tag i ring f).mode = s.mode := rfl
@[simp] theorem State.updTab_store (tag i ring : Nat) (f : TabRec → TabRec) : (s.updTab tag i ring f).store = s.store := rfl
@[simp] theorem State.updTab_shut (tag i ring : Nat) (f : TabRec → TabRec) : (s.updTab tag i ring f).shut = s.shut := rfl
@[simp] theorem State.updTab_seq (tag i ring : Nat) (f : TabRec → TabRec) : (s.updTab tag i ring f).seq = s.seq := rfl
@[simp] theorem State.updTab_tool (tag i ring : Nat) (f : TabRec → TabRec) : (s.updTab tag i ring f).tool = s.tool := rfl
@[simp] theorem State.updTab_pick (tag i ring : Nat) (f : TabRec → TabRec) : (s.updTab tag i ring f).pick = s.pick := rfl
@[simp] theorem State.updTab_route (tag i ring : Nat) (f : TabRec → TabRec) : (s.updTab tag i ring f).route = s.route := rfl
@[simp] theorem State.updTab_bay (tag i ring : Nat) (f : TabRec → TabRec) : (s.updTab tag i ring f).bay = s.bay := rfl
@[simp] theorem State.updTab_drive (tag i ring : Nat) (f : TabRec → TabRec) : (s.updTab tag i ring f).drive = s.drive := rfl
@[simp] theorem State.updTab_out (tag i ring : Nat) (f : TabRec → TabRec) : (s.updTab tag i ring f).out = s.out := rfl
@[simp] theorem State.updTab_freeUsed (tag i ring : Nat) (f : TabRec → TabRec) : (s.updTab tag i ring f).freeUsed = s.freeUsed := rfl
@[simp] theorem State.updTab_pending (tag i ring : Nat) (f : TabRec → TabRec) : (s.updTab tag i ring f).pending = s.pending := rfl

/-! beginStep, sendPlain, sendRequest -/

@[simp] theorem beginStep_link : (beginStep s).link = s.link := rfl
@[simp] theorem beginStep_mode : (beginStep s).mode = s.mode := rfl
@[simp] theorem beginStep_store : (beginStep s).store = s.store := rfl
@[simp] theorem beginStep_jobs : (beginStep s).jobs = s.jobs := rfl
@[simp] theorem beginStep_shut : (beginStep s).shut = s.shut := rfl
@[simp] theorem beginStep_seq : (beginStep s).seq = s.seq := rfl
@[simp] theorem beginStep_tool : (beginStep s).tool = s.tool := rfl
@[simp] theorem beginStep_pick : (beginStep s).pick = s.pick := rfl
@[simp] theorem beginStep_route : (beginStep s).route = s.route := rfl
@[simp] theorem beginStep_bay : (beginStep s).bay = s.bay := rfl
@[simp] theorem beginStep_drive : (beginStep s).drive = s.drive := rfl
@[simp] theorem beginStep_freeUsed : (beginStep s).freeUsed = s.freeUsed := rfl
@[simp] theorem beginStep_pending : (beginStep s).pending = s.pending := rfl
@[simp] theorem beginStep_out : (beginStep s).out = emptyOutput := rfl

@[simp] theorem sendPlain_link (m : DriveMsg) : (sendPlain m s).link = s.link := rfl
@[simp] theorem sendPlain_mode (m : DriveMsg) : (sendPlain m s).mode = s.mode := rfl
@[simp] theorem sendPlain_store (m : DriveMsg) : (sendPlain m s).store = s.store := rfl
@[simp] theorem sendPlain_jobs (m : DriveMsg) : (sendPlain m s).jobs = s.jobs := rfl
@[simp] theorem sendPlain_shut (m : DriveMsg) : (sendPlain m s).shut = s.shut := rfl
@[simp] theorem sendPlain_seq (m : DriveMsg) : (sendPlain m s).seq = s.seq := rfl
@[simp] theorem sendPlain_tool (m : DriveMsg) : (sendPlain m s).tool = s.tool := rfl
@[simp] theorem sendPlain_pick (m : DriveMsg) : (sendPlain m s).pick = s.pick := rfl
@[simp] theorem sendPlain_route (m : DriveMsg) : (sendPlain m s).route = s.route := rfl
@[simp] theorem sendPlain_bay (m : DriveMsg) : (sendPlain m s).bay = s.bay := rfl
@[simp] theorem sendPlain_drive (m : DriveMsg) : (sendPlain m s).drive = s.drive := rfl
@[simp] theorem sendPlain_freeUsed (m : DriveMsg) : (sendPlain m s).freeUsed = s.freeUsed := rfl
@[simp] theorem sendPlain_pending (m : DriveMsg) : (sendPlain m s).pending = s.pending := rfl

@[simp] theorem sendRequest_link (g : Group) (what : DriveReq) : (sendRequest g what s).link = s.link := rfl
@[simp] theorem sendRequest_mode (g : Group) (what : DriveReq) : (sendRequest g what s).mode = s.mode := rfl
@[simp] theorem sendRequest_store (g : Group) (what : DriveReq) : (sendRequest g what s).store = s.store := rfl
@[simp] theorem sendRequest_jobs (g : Group) (what : DriveReq) : (sendRequest g what s).jobs = s.jobs := rfl
@[simp] theorem sendRequest_shut (g : Group) (what : DriveReq) : (sendRequest g what s).shut = s.shut := rfl
@[simp] theorem sendRequest_seq (g : Group) (what : DriveReq) : (sendRequest g what s).seq = s.seq := rfl
@[simp] theorem sendRequest_tool (g : Group) (what : DriveReq) : (sendRequest g what s).tool = s.tool := rfl
@[simp] theorem sendRequest_pick (g : Group) (what : DriveReq) : (sendRequest g what s).pick = s.pick := rfl
@[simp] theorem sendRequest_route (g : Group) (what : DriveReq) : (sendRequest g what s).route = s.route := rfl
@[simp] theorem sendRequest_bay (g : Group) (what : DriveReq) : (sendRequest g what s).bay = s.bay := rfl
@[simp] theorem sendRequest_freeUsed (g : Group) (what : DriveReq) : (sendRequest g what s).freeUsed = s.freeUsed := rfl
@[simp] theorem sendRequest_pending (g : Group) (what : DriveReq) : (sendRequest g what s).pending = s.pending := rfl

/-- R1: a request moves its group's number on by one. -/
theorem sendRequest_drive (g : Group) (what : DriveReq) :
    (sendRequest g what s).drive = s.drive.set g (s.drive.get g + 1) := rfl

/-- R1: a request carries the number its group stands at. -/
theorem sendRequest_out (g : Group) (what : DriveReq) :
    (sendRequest g what s).out = { s.out with sent := s.out.sent ++ [.request g (s.drive.get g) what] } := rfl

end Sys2Proof.Machine
end

