-- ==== Sys2Proof/Laws/Fixed.lean ====
section
/-! SUPPORT. What the working blocks leave alone: the commands that wait, the count of free values, the receiver's side of the
link, the Recipe Store, the mode record, the claim table and the tray policy. One lemma per shared operation below the Mode Controller. -/

namespace Sys2Proof.Machine

/-- The fields of the link that only the Link Controller's own commands change. -/
def Link.inward (l : Link) : Link := { l with txQueue := [], reportsLost := false, flags := State.noFlags }

/-- The part of the state that no shared operation of a working block changes. -/
structure Fixed where
  pending : List Instr
  freeUsed : Nat
  inward : Link
  store : Store
  mode : ModeRec
  claims : Vector ClaimEntry 8
  trayPolicy : Bool

/-- The fixed part of a state. -/
def State.fixed (s : State) : Fixed :=
  { pending := s.pending, freeUsed := s.freeUsed, inward := s.link.inward, store := s.store, mode := s.mode,
    claims := s.route.claims, trayPolicy := s.route.trayPolicy }

variable (s : State)

/-- Equal fixed parts, field by field. -/
theorem State.fixed_iff (s t : State) :
    t.fixed = s.fixed ↔
      t.pending = s.pending ∧ t.freeUsed = s.freeUsed ∧ t.link.inward = s.link.inward ∧ t.store = s.store ∧
        t.mode = s.mode ∧ t.route.claims = s.route.claims ∧ t.route.trayPolicy = s.route.trayPolicy := by
  simp [State.fixed]

/-! ## Updates -/

@[simp] theorem updJobs_fixed (f : List Job → List Job) : (s.updJobs f).fixed = s.fixed := rfl
@[simp] theorem updShut_fixed (f : ShuttleCtl → ShuttleCtl) : (s.updShut f).fixed = s.fixed := rfl
@[simp] theorem updSeq_fixed (f : SeqRec → SeqRec) : (s.updSeq f).fixed = s.fixed := rfl
@[simp] theorem updTool_fixed (f : ToolRec → ToolRec) : (s.updTool f).fixed = s.fixed := rfl
@[simp] theorem updPick_fixed (f : PickRec → PickRec) : (s.updPick f).fixed = s.fixed := rfl
@[simp] theorem updRoute_fixed (f : RouteRec → RouteRec) (hc : ∀ r, (f r).claims = r.claims)
    (hp : ∀ r, (f r).trayPolicy = r.trayPolicy) : (s.updRoute f).fixed = s.fixed := by simp [State.fixed, hc, hp]
@[simp] theorem updBay_fixed (f : BayCtl → BayCtl) : (s.updBay f).fixed = s.fixed := rfl
@[simp] theorem updOut_fixed (f : Output → Output) : (s.updOut f).fixed = s.fixed := rfl
@[simp] theorem updShuttle_fixed (sh : Shuttle) (f : ShuttleRec → ShuttleRec) : (s.updShuttle sh f).fixed = s.fixed := rfl
@[simp] theorem updBayRec_fixed (b : Bay) (f : BayRec → BayRec) : (s.updBayRec b f).fixed = s.fixed := rfl
@[simp] theorem updJob_fixed (tag : Nat) (f : Job → Job) : (s.updJob tag f).fixed = s.fixed := rfl
@[simp] theorem updBoard_fixed (tag i : Nat) (f : BoardRec → BoardRec) : (s.updBoard tag i f).fixed = s.fixed := rfl
@[simp] theorem updTab_fixed (tag i ring : Nat) (f : TabRec → TabRec) : (s.updTab tag i ring f).fixed = s.fixed := rfl
@[simp] theorem sendRequest_fixed (g : Group) (w : DriveReq) : (sendRequest g w s).fixed = s.fixed := rfl
@[simp] theorem sendPlain_fixed (m : DriveMsg) : (sendPlain m s).fixed = s.fixed := rfl
@[simp] theorem beginStep_fixed : (beginStep s).fixed = s.fixed := rfl

/-! ## Reports and flags -/

@[simp] theorem queueReport_fixed (r : Report) : (queueReport r s).fixed = s.fixed := by
  unfold queueReport; repeat' split
  all_goals rfl

@[simp] theorem raiseFlag_fixed (x : Flag) : (raiseFlag x s).fixed = s.fixed := by
  unfold raiseFlag; split
  · rfl
  · simp only [queueReport_fixed]; rfl

@[simp] theorem markCell_fixed (e : CellEvent) : (markCell e s).fixed = s.fixed := rfl

@[simp] theorem placeCellState_fixed : (placeCellState s).fixed = s.fixed := by
  unfold placeCellState; repeat' split
  all_goals simp

/-! ## The Tool Monitor -/

@[simp] theorem toolReport_fixed (c : ToolCause) : (toolReport c s).fixed = s.fixed := by simp [toolReport]

@[simp] theorem startChanger_fixed : (startChanger s).fixed = s.fixed := by
  unfold startChanger; repeat' split
  all_goals simp

@[simp] theorem decideChange_fixed (c : ToolCause) (e : BitDesc) : (decideChange c e s).fixed = s.fixed := by
  simp [decideChange]

@[simp] theorem tryChange_fixed (c : ToolCause) : (tryChange c s).fixed = s.fixed := by
  unfold tryChange; split <;> simp

@[simp] theorem expireBit_fixed (c : ToolCause) : (expireBit c s).fixed = s.fixed := by
  unfold expireBit; dsimp only; split <;> simp

@[simp] theorem askPass_fixed (a : PassAsk) : (askPass a s).1.fixed = s.fixed := by
  unfold askPass; repeat' split
  · dsimp only; split <;> simp
  · rfl

@[simp] theorem toolOutcome_fixed (c : LoadClass) : (toolOutcome c s).fixed = s.fixed := by
  cases c
  · simp [toolOutcome]
  · simp [toolOutcome]
  · simp only [toolOutcome]; repeat' split
    all_goals simp

@[simp] theorem haltChanger_fixed : (haltChanger s).fixed = s.fixed := by
  unfold haltChanger; repeat' split
  all_goals simp

@[simp] theorem failChanger_fixed (c : ToolCause) : (failChanger c s).fixed = s.fixed := by simp [failChanger]

/-! ## The Job List -/

@[simp] theorem reportJob_fixed (tag : Nat) : (reportJob tag s).fixed = s.fixed := by
  unfold reportJob; split <;> simp

@[simp] theorem jobEvent_fixed (tag : Nat) (e : JobEvent) (f : Job → Job) : (jobEvent tag e f s).fixed = s.fixed := by
  unfold jobEvent; repeat' split
  all_goals simp

@[simp] theorem removeJob_fixed (tag : Nat) (l : LeaveListCause) : (removeJob tag l s).fixed = s.fixed := by
  unfold removeJob; split <;> simp

@[simp] theorem reportBoard_fixed (tag i : Nat) : (reportBoard tag i s).fixed = s.fixed := by
  unfold reportBoard; split <;> simp

@[simp] theorem moveBoard_fixed (tag i : Nat) (e : BoardEvent) : (moveBoard tag i e s).1.fixed = s.fixed := by
  unfold moveBoard; split
  · rfl
  · dsimp only; split <;> simp

/-! ## The Shuttle Controller -/

@[simp] theorem bindJob_fixed (sh : Shuttle) (tag : Nat) : (bindJob sh tag s).fixed = s.fixed := by simp [bindJob]

@[simp] theorem grantArea_fixed (sh : Shuttle) : (grantArea sh s).fixed = s.fixed := by simp [grantArea]

@[simp] theorem arbiterTest_fixed : (arbiterTest s).fixed = s.fixed := by
  unfold arbiterTest; repeat' split
  all_goals simp

@[simp] theorem askArea_fixed (sh : Shuttle) : (askArea sh s).fixed = s.fixed := by
  unfold askArea; split <;> simp

@[simp] theorem startMoveOut_fixed (sh : Shuttle) : (startMoveOut sh s).fixed = s.fixed := by
  unfold startMoveOut; split <;> simp

@[simp] theorem askMoveOut_fixed (sh : Shuttle) : (askMoveOut sh s).fixed = s.fixed := by simp [askMoveOut]

@[simp] theorem repeatMove_fixed (sh : Shuttle) : (repeatMove sh s).fixed = s.fixed := by
  unfold repeatMove; dsimp only; split <;> simp

@[simp] theorem shuttlesEnterRun_fixed : (shuttlesEnterRun s).fixed = s.fixed := by simp [shuttlesEnterRun]

@[simp] theorem unbindJob_fixed (tag : Nat) : (unbindJob tag s).fixed = s.fixed := by simp [unbindJob]

/-! ## The Bay Controller -/

@[simp] theorem bayReport_fixed (b : Bay) (c : BayCause) : (bayReport b c s).fixed = s.fixed := by simp [bayReport]

@[simp] theorem magazineReport_fixed (b : Bay) (u : Bool) : (magazineReport b u s).fixed = s.fixed := by
  unfold magazineReport; split <;> simp

@[simp] theorem openLatch_fixed (b : Bay) : (openLatch b s).fixed = s.fixed := by
  unfold openLatch; split <;> simp

@[simp] theorem openHeldLatch_fixed (b : Bay) : (openHeldLatch b s).fixed = s.fixed := by
  unfold openHeldLatch; split <;> simp

@[simp] theorem releaseBay_fixed (b : Bay) : (releaseBay b s).fixed = s.fixed := by simp [releaseBay]

@[simp] theorem askSwap_fixed (b : Bay) (m : SwapMark) : (askSwap b m s).fixed = s.fixed := by
  unfold askSwap; dsimp only; split <;> simp

@[simp] theorem autoSwapTest_fixed (b : Bay) : (autoSwapTest b s).fixed = s.fixed := by
  unfold autoSwapTest; split <;> simp

@[simp] theorem drainTest_fixed (b : Bay) : (drainTest b s).fixed = s.fixed := by
  unfold drainTest; split <;> simp

@[simp] theorem mapSlots_fixed (b : Bay) (f : List Slot → List Slot) : (mapSlots b f s).fixed = s.fixed := rfl

@[simp] theorem reserveRun_fixed (b : Bay) (n : Nat) (r : RunHead) : (reserveRun b n r s).fixed = s.fixed := by
  simp [reserveRun]

@[simp] theorem occupyRun_fixed (b : Bay) (n : Nat) : (occupyRun b n s).fixed = s.fixed := rfl

@[simp] theorem blockRun_fixed (b : Bay) (n : Nat) : (blockRun b n s).fixed = s.fixed := rfl

@[simp] theorem freeRun_fixed (b : Bay) (n c : Nat) : (freeRun b n c s).fixed = s.fixed := by simp [freeRun]

/-! ## Boards -/

@[simp] theorem giveUpJob_fixed (tag : Nat) : (giveUpJob tag s).fixed = s.fixed := by
  unfold giveUpJob; split <;> simp

@[simp] theorem finishAtArea_fixed (b : Option Shuttle) : (finishAtArea b s).fixed = s.fixed := by
  unfold finishAtArea; split <;> simp

@[simp] theorem completeJob_fixed (tag : Nat) : (completeJob tag s).fixed = s.fixed := by
  unfold completeJob; repeat' split
  all_goals simp

@[simp] theorem boardEvent_fixed (tag i : Nat) (e : BoardEvent) : (boardEvent tag i e s).fixed = s.fixed := by
  have h := moveBoard_fixed s tag i e
  unfold boardEvent; split
  · split <;> simp_all
  · simp_all

@[simp] theorem leaveHoldList_fixed (tag i : Nat) : (leaveHoldList tag i s).fixed = s.fixed := rfl

@[simp] theorem leaveCurrent_fixed (tag i : Nat) : (leaveCurrent tag i s).fixed = s.fixed := rfl

/-! ## The Pick Controller -/

@[simp] theorem startMotion_fixed (k : MotionKind) : (startMotion k s).fixed = s.fixed := by
  unfold startMotion; split <;> simp

@[simp] theorem startHeldMotion_fixed : (startHeldMotion s).fixed = s.fixed := by
  unfold startHeldMotion; repeat' split
  all_goals simp

@[simp] theorem serveTest_fixed : (serveTest s).fixed = s.fixed := by
  unfold serveTest; repeat' split
  all_goals simp

@[simp] theorem requestHold_fixed (tag i : Nat) : (requestHold tag i s).fixed = s.fixed := by simp [requestHold]

@[simp] theorem returnEmpty_fixed : (returnEmpty s).fixed = s.fixed := by simp [returnEmpty]

@[simp] theorem settleHead_fixed : (settleHead s).fixed = s.fixed := by simp [settleHead]

@[simp] theorem confirmRun_fixed (b : Bay) (r : Run) : (confirmRun b r s).fixed = s.fixed := by
  unfold confirmRun; dsimp only; split <;> simp

@[simp] theorem confirmTray_fixed : (confirmTray s).fixed = s.fixed := by
  unfold confirmTray; dsimp only; split <;> simp

@[simp] theorem loseBoard_fixed : (loseBoard s).fixed = s.fixed := by
  unfold loseBoard; split <;> simp

@[simp] theorem losePlacement_fixed : (losePlacement s).fixed = s.fixed := by
  unfold losePlacement; dsimp only; split <;> simp

/-! ## The Claim Router -/

@[simp] theorem applyAnswer_fixed (r : BoardRef) (a : Answer) : (applyAnswer r a s).fixed = s.fixed := by
  unfold applyAnswer; dsimp only; repeat' split
  all_goals simp

@[simp] theorem routeBoard_fixed (r : BoardRef) : (routeBoard r s).fixed = s.fixed := by
  unfold routeBoard; dsimp only; split <;> simp

@[simp] theorem retryWait_fixed : (retryWait s).fixed = s.fixed := by
  unfold retryWait; dsimp only; repeat' split
  all_goals simp

@[simp] theorem releaseDestination_fixed (r : BoardRef) (d : Destination) : (releaseDestination r d s).fixed = s.fixed := by
  unfold releaseDestination; dsimp only; split <;> simp

@[simp] theorem dropCarried_fixed (r : BoardRef) : (dropCarried r s).fixed = s.fixed := by simp [dropCarried]

/-! ## The Cut Sequencer -/

@[simp] theorem requestPass_fixed (tag i ring : Nat) (held : Bool) (p : Nat) (d : Axis) (g : Grant) :
    (requestPass tag i ring held p d g s).fixed = s.fixed := by
  unfold requestPass; dsimp only; repeat' split
  all_goals simp

@[simp] theorem startPass_fixed (tag i ring : Nat) (held : Bool) : (startPass tag i ring held s).fixed = s.fixed := by
  unfold startPass; split
  · rename_i r e t _ _ _
    have h := askPass_fixed s { w := e.w, p := t.used + 1, recipe := r }
    split <;> simp_all
  · rfl

@[simp] theorem enterHoldList_fixed (tag i : Nat) : (enterHoldList tag i s).fixed = s.fixed := by simp [enterHoldList]

@[simp] theorem takeBoard_fixed (tag i : Nat) : (takeBoard tag i s).fixed = s.fixed := by simp [takeBoard]

@[simp] theorem stallOrFinish_fixed : (stallOrFinish s).fixed = s.fixed := rfl

@[simp] theorem takeBoards_fixed (tag : Nat) (l : List Nat) : ∀ s : State, (takeBoards tag l s).fixed = s.fixed := by
  induction l with
  | nil => intro s; rfl
  | cons i rest ih =>
    intro s
    unfold takeBoards; dsimp only; repeat' split
    all_goals simp [ih]

@[simp] theorem chooseFresh_fixed (tag : Nat) : (chooseFresh tag s).fixed = s.fixed := by
  unfold chooseFresh; repeat' split
  all_goals simp

@[simp] theorem chooseInRun_fixed (tag : Nat) : (chooseInRun tag s).fixed = s.fixed := by
  unfold chooseInRun; repeat' split
  all_goals simp

@[simp] theorem chooseNext_fixed : (chooseNext s).fixed = s.fixed := by
  unfold chooseNext; repeat' split
  all_goals simp

@[simp] theorem chooseIfAwaiting_fixed : (chooseIfAwaiting s).fixed = s.fixed := by
  unfold chooseIfAwaiting; split <;> simp

@[simp] theorem reportFitted_fixed : (reportFitted s).fixed = s.fixed := by
  unfold reportFitted; split <;> simp

@[simp] theorem takeUpJob_fixed (tag : Nat) : (takeUpJob tag s).fixed = s.fixed := by simp [takeUpJob]

@[simp] theorem sequencerEntersRun_fixed : (sequencerEntersRun s).fixed = s.fixed := by
  unfold sequencerEntersRun; split <;> simp

@[simp] theorem giveUpHold_fixed (r : BoardRef) : (giveUpHold r s).fixed = s.fixed := by simp [giveUpHold]

@[simp] theorem loseHold_fixed (r : BoardRef) : (loseHold r s).fixed = s.fixed := by
  unfold loseHold; dsimp only; split <;> simp

@[simp] theorem heldOutcome_fixed (r : BoardRef) (d : Decision) : (heldOutcome r d s).fixed = s.fixed := by
  unfold heldOutcome; dsimp only; repeat' split
  all_goals simp

/-! ## The Cut Verifier and abandonment -/

@[simp] theorem boardConsequence_fixed (r : PassRec) (d : Decision) : (boardConsequence r d s).fixed = s.fixed := by
  unfold boardConsequence; dsimp only; repeat' split
  all_goals simp

@[simp] theorem verifyPass_fixed (r : PassRec) (c : LoadClass) (o : Bool) : (verifyPass r c o s).fixed = s.fixed := by
  unfold verifyPass; dsimp only; repeat' split
  all_goals simp

@[simp] theorem releaseAbandoned_fixed (r : BoardRef) : (releaseAbandoned r s).fixed = s.fixed := by
  unfold releaseAbandoned; split <;> simp

@[simp] theorem abandonBoard_fixed (tag i : Nat) : (abandonBoard tag i s).fixed = s.fixed := by
  have h := moveBoard_fixed s tag i .abandoned
  unfold abandonBoard; split <;> simp_all

/-- A fold of steps that keep the fixed part keeps it. -/
theorem foldl_fixed {α : Type} (f : State → α → State) (hf : ∀ s x, (f s x).fixed = s.fixed) (l : List α) :
    ∀ s : State, (l.foldl f s).fixed = s.fixed := by
  induction l with
  | nil => intro s; rfl
  | cons x rest ih => intro s; simp [ih, hf]

@[simp] theorem abandonBoards_fixed (tag : Nat) : (abandonBoards tag s).fixed = s.fixed := by
  unfold abandonBoards; split
  · exact foldl_fixed _ (by simp) _ _
  · rfl

@[simp] theorem abandonIfWithdrawing_fixed (tag : Nat) : (abandonIfWithdrawing tag s).fixed = s.fixed := by
  unfold abandonIfWithdrawing; repeat' split
  all_goals simp

@[simp] theorem holdEntry_fixed (tag i : Nat) : (holdEntry tag i s).fixed = s.fixed := by
  unfold holdEntry; split <;> simp

@[simp] theorem completePass_fixed (r : PassRec) (c : LoadClass) (o : Bool) : (completePass r c o s).fixed = s.fixed := by
  unfold completePass; dsimp only; split <;> simp

@[simp] theorem interruptPass_fixed (c : StopCause) : (interruptPass c s).fixed = s.fixed := by
  unfold interruptPass; dsimp only; repeat' split
  all_goals simp

@[simp] theorem settleHeldPass_fixed : (settleHeldPass s).fixed = s.fixed := by
  unfold settleHeldPass; dsimp only; repeat' split
  all_goals simp

/-! ## The entries into RUN and PAUSED -/

@[simp] theorem enterRun_fixed : (enterRun s).fixed = s.fixed := by
  unfold enterRun; dsimp only
  rw [foldl_fixed _ (by simp)]; simp

@[simp] theorem enterPaused_fixed : (enterPaused s).fixed = s.fixed := by
  unfold enterPaused
  rw [foldl_fixed _ (by simp)]; simp

end Sys2Proof.Machine
end

