-- ==== Sys2Proof/Laws/Outgoing.lean ====
section
/-! SUPPORT. The outgoing side of a step: what queuing a report, raising a flag and ending the step do. -/

namespace Sys2Proof.Machine

variable (s : State)

/-! ## The settled part -/

@[simp] theorem queueReport_settled (r : Report) : (queueReport r s).settled = s.settled := by
  unfold queueReport; repeat' split
  all_goals rfl

@[simp] theorem markCell_settled (e : CellEvent) : (markCell e s).settled = s.settled := rfl

@[simp] theorem placeCellState_settled : (placeCellState s).settled = s.settled := by
  unfold placeCellState; repeat' split
  · rfl
  · rfl
  · exact queueReport_settled s _

@[simp] theorem beginStep_settled : (beginStep s).settled = s.settled := rfl

@[simp] theorem sendPlain_settled (m : DriveMsg) : (sendPlain m s).settled = s.settled := rfl

theorem pump_settled : (pump s).settled = s.settled := by
  unfold pump; repeat' split
  all_goals rfl

/-- The end of a step changes the outgoing side only. -/
@[simp] theorem finishStep_settled : (finishStep s).settled = s.settled := by
  unfold finishStep
  rw [pump_settled]
  exact placeCellState_settled s

/-! ## Field by field -/

@[simp] theorem finishStep_mode : (finishStep s).mode = s.mode := by
  have h := congrArg State.mode (finishStep_settled s); simpa only [State.settled] using h
@[simp] theorem finishStep_store : (finishStep s).store = s.store := by
  have h := congrArg State.store (finishStep_settled s); simpa only [State.settled] using h
@[simp] theorem finishStep_jobs : (finishStep s).jobs = s.jobs := by
  have h := congrArg State.jobs (finishStep_settled s); simpa only [State.settled] using h
@[simp] theorem finishStep_shut : (finishStep s).shut = s.shut := by
  have h := congrArg State.shut (finishStep_settled s); simpa only [State.settled] using h
@[simp] theorem finishStep_seq : (finishStep s).seq = s.seq := by
  have h := congrArg State.seq (finishStep_settled s); simpa only [State.settled] using h
@[simp] theorem finishStep_tool : (finishStep s).tool = s.tool := by
  have h := congrArg State.tool (finishStep_settled s); simpa only [State.settled] using h
@[simp] theorem finishStep_pick : (finishStep s).pick = s.pick := by
  have h := congrArg State.pick (finishStep_settled s); simpa only [State.settled] using h
@[simp] theorem finishStep_route : (finishStep s).route = s.route := by
  have h := congrArg State.route (finishStep_settled s); simpa only [State.settled] using h
@[simp] theorem finishStep_bay : (finishStep s).bay = s.bay := by
  have h := congrArg State.bay (finishStep_settled s); simpa only [State.settled] using h
@[simp] theorem finishStep_drive : (finishStep s).drive = s.drive := by
  have h := congrArg State.drive (finishStep_settled s); simpa only [State.settled] using h
@[simp] theorem finishStep_freeUsed : (finishStep s).freeUsed = s.freeUsed := by
  have h := congrArg State.freeUsed (finishStep_settled s); simpa only [State.settled] using h
@[simp] theorem finishStep_pending : (finishStep s).pending = s.pending := by
  have h := congrArg State.pending (finishStep_settled s); simpa only [State.settled] using h
@[simp] theorem finishStep_rx : (finishStep s).link.rx = s.link.rx := by
  have h := congrArg (fun x => x.link.rx) (finishStep_settled s); simpa only [State.settled] using h
@[simp] theorem finishStep_rxQueue : (finishStep s).link.rxQueue = s.link.rxQueue := by
  have h := congrArg (fun x => x.link.rxQueue) (finishStep_settled s); simpa only [State.settled] using h
@[simp] theorem finishStep_mask : (finishStep s).link.mask = s.link.mask := by
  have h := congrArg (fun x => x.link.mask) (finishStep_settled s); simpa only [State.settled] using h
@[simp] theorem finishStep_flags : (finishStep s).link.flags = s.link.flags := by
  have h := congrArg (fun x => x.link.flags) (finishStep_settled s); simpa only [State.settled] using h
@[simp] theorem finishStep_linkErrors : (finishStep s).link.linkErrors = s.link.linkErrors := by
  have h := congrArg (fun x => x.link.linkErrors) (finishStep_settled s); simpa only [State.settled] using h
@[simp] theorem finishStep_resetEnable : (finishStep s).link.resetEnable = s.link.resetEnable := by
  have h := congrArg (fun x => x.link.resetEnable) (finishStep_settled s); simpa only [State.settled] using h
@[simp] theorem finishStep_resetPhase : (finishStep s).link.reset = s.link.reset := by
  have h := congrArg (fun x => x.link.reset) (finishStep_settled s); simpa only [State.settled] using h
@[simp] theorem finishStep_baud : (finishStep s).link.baud = s.link.baud := by
  have h := congrArg (fun x => x.link.baud) (finishStep_settled s); simpa only [State.settled] using h

/-! ## The step's output -/

theorem pump_out : (pump s).out = s.out := by
  unfold pump; repeat' split
  all_goals rfl

theorem queueReport_sent (r : Report) : (queueReport r s).out.sent = s.out.sent := by
  unfold queueReport; repeat' split
  all_goals rfl

theorem placeCellState_sent : (placeCellState s).out.sent = s.out.sent := by
  unfold placeCellState; repeat' split
  · rfl
  · rfl
  · exact queueReport_sent s _

/-- After a step only the messages sent on the drive link are left of its output. -/
theorem finishStep_out : (finishStep s).out = { emptyOutput with sent := s.out.sent } := by
  unfold finishStep
  rw [pump_out]
  simp [emptyOutput, placeCellState_sent]

/-! ## The order of what is sent -/

/-- R204: the transmitter's choice moves a frame on without changing the order of what is on its way out. -/
theorem pump_outgoing : (pump s).outgoing = s.outgoing := by
  unfold pump; repeat' split
  · rfl
  · rfl
  · simp_all [State.outgoing]
  · simp_all [State.outgoing]
  · rfl

theorem pump_reportsLost : (pump s).link.reportsLost = s.link.reportsLost := by
  unfold pump; repeat' split
  all_goals rfl

/-- R205, with room: a report of an enabled class joins the step's reports, and one of another class is not kept. -/
theorem queueReport_room (r : Report) (h : s.link.txQueue.length + s.out.fresh.length < Config.transmitLimit) :
    queueReport r s = s.updOut fun o => { o with fresh := o.fresh ++ [r].filter fun x => s.link.mask.get x.cls } := by
  unfold queueReport
  cases hm : s.link.mask.get r.cls <;> simp [hm, h, State.updOut]

end Sys2Proof.Machine
end

