-- ==== Sys2Proof/Laws/Reports.lean ====
section
/-! SUPPORT. The shape of a step: a change of the owners' records, with reports queued on the way. Queuing a report commutes with
every change of a record, so the reports of a step can be brought to its end, in their order; what the end of the step makes of
them is said once. -/

namespace Sys2Proof.Machine

/-- Queue a list of reports, the first first. -/
def queueReports (l : List Report) (s : State) : State := l.foldl (fun s r => queueReport r s) s

variable (s : State) (r : Report)

/-! ## What queuing leaves alone -/

@[simp] theorem queueReport_mode : (queueReport r s).mode = s.mode := by unfold queueReport; (repeat' split) <;> rfl
@[simp] theorem queueReport_store : (queueReport r s).store = s.store := by unfold queueReport; (repeat' split) <;> rfl
@[simp] theorem queueReport_jobs : (queueReport r s).jobs = s.jobs := by unfold queueReport; (repeat' split) <;> rfl
@[simp] theorem queueReport_shut : (queueReport r s).shut = s.shut := by unfold queueReport; (repeat' split) <;> rfl
@[simp] theorem queueReport_seq : (queueReport r s).seq = s.seq := by unfold queueReport; (repeat' split) <;> rfl
@[simp] theorem queueReport_tool : (queueReport r s).tool = s.tool := by unfold queueReport; (repeat' split) <;> rfl
@[simp] theorem queueReport_pick : (queueReport r s).pick = s.pick := by unfold queueReport; (repeat' split) <;> rfl
@[simp] theorem queueReport_route : (queueReport r s).route = s.route := by unfold queueReport; (repeat' split) <;> rfl
@[simp] theorem queueReport_bay : (queueReport r s).bay = s.bay := by unfold queueReport; (repeat' split) <;> rfl
@[simp] theorem queueReport_drive : (queueReport r s).drive = s.drive := by unfold queueReport; (repeat' split) <;> rfl
@[simp] theorem queueReport_freeUsed : (queueReport r s).freeUsed = s.freeUsed := by
  unfold queueReport; (repeat' split) <;> rfl
@[simp] theorem queueReport_pending : (queueReport r s).pending = s.pending := by
  unfold queueReport; (repeat' split) <;> rfl
@[simp] theorem queueReport_flags : (queueReport r s).link.flags = s.link.flags := by
  unfold queueReport; (repeat' split) <;> rfl
@[simp] theorem queueReport_slot : (queueReport r s).link.slot = s.link.slot := by unfold queueReport; (repeat' split) <;> rfl
@[simp] theorem queueReport_sending : (queueReport r s).link.sending = s.link.sending := by
  unfold queueReport; (repeat' split) <;> rfl
@[simp] theorem queueReport_mask : (queueReport r s).link.mask = s.link.mask := by unfold queueReport; (repeat' split) <;> rfl
@[simp] theorem queueReport_resetPhase : (queueReport r s).link.reset = s.link.reset := by
  unfold queueReport; (repeat' split) <;> rfl
@[simp] theorem queueReport_cellEvent : (queueReport r s).out.cellEvent = s.out.cellEvent := by
  unfold queueReport; (repeat' split) <;> rfl
@[simp] theorem queueReport_cellPlaced : (queueReport r s).out.cellPlaced = s.out.cellPlaced := by
  unfold queueReport; (repeat' split) <;> rfl

@[simp] theorem queueReport_shuttle (sh : Shuttle) : (queueReport r s).shuttle sh = s.shuttle sh := by simp [State.shuttle]
@[simp] theorem queueReport_bayRec (b : Bay) : (queueReport r s).bayRec b = s.bayRec b := by simp [State.bayRec]
@[simp] theorem queueReport_bayFitted (b : Bay) : (queueReport r s).bayFitted b = s.bayFitted b := by simp [State.bayFitted]
@[simp] theorem queueReport_bayEnabled (b : Bay) : (queueReport r s).bayEnabled b = s.bayEnabled b := by
  simp [State.bayEnabled]
@[simp] theorem queueReport_job? (tag : Nat) : (queueReport r s).job? tag = s.job? tag := by simp [State.job?]
@[simp] theorem queueReport_board? (tag i : Nat) : (queueReport r s).board? tag i = s.board? tag i := by
  simp [State.board?]
@[simp] theorem queueReport_boardState (tag i : Nat) : (queueReport r s).boardState tag i = s.boardState tag i := by
  simp [State.boardState]
@[simp] theorem queueReport_jobRecipe? (tag : Nat) : (queueReport r s).jobRecipe? tag = s.jobRecipe? tag := by
  simp [State.jobRecipe?]
@[simp] theorem queueReport_product (tag i : Nat) : (queueReport r s).product tag i = s.product tag i := by
  simp [State.product, State.boardEntry?]
@[simp] theorem queueReport_nextReq (g : Group) : nextReq g (queueReport r s) = nextReq g s := by simp [nextReq]
@[simp] theorem queueReport_withdrawing (tag : Nat) : (queueReport r s).withdrawing tag = s.withdrawing tag := by
  simp [State.withdrawing]

/-! ## Changes of records commute with queuing -/

/-- What queuing a report makes of the link and of the step's output. -/
def queuedSide (r : Report) (l : Link) (o : Output) : Link × Output :=
  if !l.mask.get r.cls then (l, o)
  else if l.txQueue.length + o.fresh.length < Config.transmitLimit then (l, { o with fresh := o.fresh ++ [r] })
  else if l.txQueue.any Report.isTabDone then
    ({ l with txQueue := dropTabDone l.txQueue, reportsLost := true }, { o with fresh := o.fresh ++ [r] })
  else if o.fresh.any Report.isTabDone then
    ({ l with reportsLost := true }, { o with fresh := dropTabDone o.fresh ++ [r] })
  else ({ l with reportsLost := true }, o)

/-- R205: queuing a report changes the link and the step's output, as they stand, and nothing else. -/
theorem queueReport_side :
    queueReport r s = { s with link := (queuedSide r s.link s.out).1, out := (queuedSide r s.link s.out).2 } := by
  unfold queueReport queuedSide; (repeat' split) <;> rfl

theorem updMode_queue (f : ModeRec → ModeRec) : (queueReport r s).updMode f = queueReport r (s.updMode f) := by
  rw [queueReport_side, queueReport_side]; rfl
theorem updStore_queue (f : Store → Store) : (queueReport r s).updStore f = queueReport r (s.updStore f) := by
  rw [queueReport_side, queueReport_side]; rfl
theorem updJobs_queue (f : List Job → List Job) : (queueReport r s).updJobs f = queueReport r (s.updJobs f) := by
  rw [queueReport_side, queueReport_side]; rfl
theorem updShut_queue (f : ShuttleCtl → ShuttleCtl) : (queueReport r s).updShut f = queueReport r (s.updShut f) := by
  rw [queueReport_side, queueReport_side]; rfl
theorem updSeq_queue (f : SeqRec → SeqRec) : (queueReport r s).updSeq f = queueReport r (s.updSeq f) := by
  rw [queueReport_side, queueReport_side]; rfl
theorem updTool_queue (f : ToolRec → ToolRec) : (queueReport r s).updTool f = queueReport r (s.updTool f) := by
  rw [queueReport_side, queueReport_side]; rfl
theorem updPick_queue (f : PickRec → PickRec) : (queueReport r s).updPick f = queueReport r (s.updPick f) := by
  rw [queueReport_side, queueReport_side]; rfl
theorem updRoute_queue (f : RouteRec → RouteRec) : (queueReport r s).updRoute f = queueReport r (s.updRoute f) := by
  rw [queueReport_side, queueReport_side]; rfl
theorem updBay_queue (f : BayCtl → BayCtl) : (queueReport r s).updBay f = queueReport r (s.updBay f) := by
  rw [queueReport_side, queueReport_side]; rfl
theorem updShuttle_queue (sh : Shuttle) (f : ShuttleRec → ShuttleRec) :
    (queueReport r s).updShuttle sh f = queueReport r (s.updShuttle sh f) := updShut_queue s r _
theorem updBayRec_queue (b : Bay) (f : BayRec → BayRec) :
    (queueReport r s).updBayRec b f = queueReport r (s.updBayRec b f) := updBay_queue s r _
theorem mapSlots_queue (b : Bay) (f : List Slot → List Slot) :
    mapSlots b f (queueReport r s) = queueReport r (mapSlots b f s) := updBayRec_queue s r _ _
theorem updJob_queue (tag : Nat) (f : Job → Job) : (queueReport r s).updJob tag f = queueReport r (s.updJob tag f) :=
  updJobs_queue s r _
theorem updBoard_queue (tag i : Nat) (f : BoardRec → BoardRec) :
    (queueReport r s).updBoard tag i f = queueReport r (s.updBoard tag i f) := updJob_queue s r _ _
theorem updTab_queue (tag i ring : Nat) (f : TabRec → TabRec) :
    (queueReport r s).updTab tag i ring f = queueReport r (s.updTab tag i ring f) := updBoard_queue s r _ _ _
theorem sendRequest_queue (g : Group) (w : DriveReq) :
    sendRequest g w (queueReport r s) = queueReport r (sendRequest g w s) := by
  rw [queueReport_side, queueReport_side]; unfold queuedSide sendRequest; (repeat' split) <;> simp_all
theorem sendPlain_queue (m : DriveMsg) : sendPlain m (queueReport r s) = queueReport r (sendPlain m s) := by
  rw [queueReport_side, queueReport_side]; unfold queuedSide sendPlain State.updOut; (repeat' split) <;> simp_all
theorem markCell_queue (e : CellEvent) : markCell e (queueReport r s) = queueReport r (markCell e s) := by
  rw [queueReport_side, queueReport_side]; unfold queuedSide markCell State.updOut; (repeat' split) <;> simp_all
theorem flags_queue (f : FlagSet → FlagSet) :
    (queueReport r s).updLink (fun l => { l with flags := f l.flags }) =
      queueReport r (s.updLink fun l => { l with flags := f l.flags }) := by
  rw [queueReport_side, queueReport_side]; unfold queuedSide State.updLink; (repeat' split) <;> simp_all

/-- The reply enters the slot without regard to the reports of its step. -/
theorem giveReply_queue (x : Reply) : giveReply x (queueReport r s) = queueReport r (giveReply x s) := by
  rw [queueReport_side, queueReport_side]; unfold queuedSide giveReply State.updLink; (repeat' split) <;> simp_all

/-- R206: a flag that is clear is set, and FLAG RAISED queued. -/
theorem raiseFlag_clear (x : Flag) (h : s.link.flags.get x = false) :
    raiseFlag x s =
      queueReport (.flagRaised x (s.link.flags.raise x)) (s.updLink fun l => { l with flags := l.flags.raise x }) := by
  simp [raiseFlag, h]

/-- R206: a flag that is set changes nothing. -/
theorem raiseFlag_set (x : Flag) (h : s.link.flags.get x = true) : raiseFlag x s = s := by simp [raiseFlag, h]

/-! ## Lists of reports -/

@[simp] theorem queueReports_nil : queueReports [] s = s := rfl
@[simp] theorem queueReports_cons (l : List Report) : queueReports (r :: l) s = queueReports l (queueReport r s) := rfl

theorem queueReports_append (l m : List Report) : queueReports (l ++ m) s = queueReports m (queueReports l s) := by
  simp [queueReports, List.foldl_append]

theorem queueReports_settled (l : List Report) : ∀ s : State, (queueReports l s).settled = s.settled := by
  induction l with
  | nil => intro s; rfl
  | cons r l ih => intro s; simp [ih]

theorem queueReports_sent (l : List Report) : ∀ s : State, (queueReports l s).out.sent = s.out.sent := by
  induction l with
  | nil => intro s; rfl
  | cons r l ih => intro s; simp [ih, queueReport_sent]

theorem giveReply_queues (x : Reply) (l : List Report) :
    ∀ s : State, giveReply x (queueReports l s) = queueReports l (giveReply x s) := by
  induction l with
  | nil => intro s; rfl
  | cons r l ih => intro s; simp [ih, giveReply_queue]

/-- R205, with room: the reports of enabled classes join the step's reports. -/
theorem queueReports_room (l : List Report) :
    ∀ s : State, s.link.txQueue.length + s.out.fresh.length + l.length ≤ Config.transmitLimit →
      queueReports l s = s.updOut fun o => { o with fresh := o.fresh ++ l.filter fun x => s.link.mask.get x.cls } := by
  induction l with
  | nil => intro s _; simp [State.updOut]
  | cons r l ih =>
    intro s h
    simp only [List.length_cons] at h
    rw [queueReports_cons, queueReport_room _ _ (by omega), ih]
    · cases hm : s.link.mask.get r.cls <;> simp [State.updOut, hm]
    · cases hm : s.link.mask.get r.cls <;> simp [State.updOut, hm] <;> omega

/-- The class of a report is not changed by what the end of the step writes into it. -/
@[simp] theorem settleReport_cls : (settleReport s r).cls = r.cls := by cases r <;> rfl

/-- The CELL STATE that a step which has met an event of R200 queues at its end. -/
def cellDue (s : State) : List Report :=
  match s.out.cellEvent with
  | some e => [.cellState (cellReport e s)]
  | none => []

/-- What the end of a step writes into a report depends on the mode record, the flags and the step's CELL STATE event only. -/
theorem settleReport_updOut (g : Output → Output) (hg : ∀ o, (g o).cellEvent = o.cellEvent) :
    settleReport (s.updOut g) r = settleReport s r := by
  cases r with
  | cellState x =>
    show Report.cellState (cellReport ((g s.out).cellEvent.getD x.event) (s.updOut g)) = _
    rw [hg]; rfl
  | _ => rfl

/-- R200: with room, the step's CELL STATE joins its reports if one is due. -/
theorem placeCellState_room (hp : s.out.cellPlaced = false)
    (room : s.link.txQueue.length + s.out.fresh.length + (cellDue s).length ≤ Config.transmitLimit) :
    ∃ p, placeCellState s = s.updOut fun o =>
      { o with fresh := o.fresh ++ (cellDue s).filter fun x => s.link.mask.get x.cls, cellPlaced := p } := by
  unfold placeCellState
  cases he : s.out.cellEvent with
  | none =>
    have hd : cellDue s = [] := by simp [cellDue, he]
    exact ⟨s.out.cellPlaced, by rw [hd]; simp [State.updOut]⟩
  | some e =>
    simp only [cellDue, he, List.length_singleton] at room
    refine ⟨true, ?_⟩
    simp only [hp, Bool.false_eq_true, ↓reduceIte, cellDue, he]
    rw [queueReport_room _ _ (by omega)]
    rfl

/-- R200, R204, R205: what a step that has changed the records to those of `w` and queued the reports `l`, in this order, has on
its way out, while the queue has room: what was on its way, then the reports of enabled classes, the step's CELL STATE last. -/
theorem finishStep_outgoing (l : List Report) (w : State) (hf : w.out.fresh = []) (hp : w.out.cellPlaced = false)
    (room : w.link.txQueue.length + (l.length + (cellDue w).length) ≤ Config.transmitLimit) :
    (finishStep (queueReports l w)).outgoing =
        w.outgoing ++ keptReports w.link.mask (l.map (settleReport w) ++ cellDue w) ∧
      (finishStep (queueReports l w)).link.reportsLost = w.link.reportsLost := by
  have hlen : (l.filter fun x => w.link.mask.get x.cls).length ≤ l.length := List.length_filter_le _ _
  have hu := queueReports_room l w (by rw [hf]; simp; omega)
  have hdue : cellDue (queueReports l w) = cellDue w := by rw [hu]; rfl
  obtain ⟨p, hq⟩ := placeCellState_room (queueReports l w) (by rw [hu]; exact hp)
    (by rw [hdue, hu]; simp [hf]; omega)
  unfold finishStep
  rw [pump_outgoing, pump_reportsLost, hq, hdue, hu]
  have hset : ∀ x, settleReport (((w.updOut fun o => { o with fresh := o.fresh ++ l.filter fun x => w.link.mask.get x.cls }).updOut
      fun o => { o with fresh := o.fresh ++ (cellDue w).filter fun x => w.link.mask.get x.cls, cellPlaced := p })) x =
      settleReport w x := fun x =>
    (settleReport_updOut _ _ _ fun _ => rfl).trans (settleReport_updOut _ _ _ fun _ => rfl)
  have hcell : ∀ x ∈ cellDue w, settleReport w x = x := by
    intro x hx
    cases he : w.out.cellEvent with
    | none => simp [cellDue, he] at hx
    | some e =>
      simp only [cellDue, he, List.mem_singleton] at hx
      subst hx; simp [settleReport, he]
  refine ⟨?_, rfl⟩
  have hmap : ((cellDue w).filter fun x => w.link.mask.get x.cls).map (settleReport w) =
      (cellDue w).filter fun x => w.link.mask.get x.cls := by
    conv => rhs; rw [← List.map_id ((cellDue w).filter fun x => w.link.mask.get x.cls)]
    exact List.map_congr_left fun x hx => hcell x (List.mem_filter.mp hx).1
  have hmap2 : (l.map (settleReport w)).filter (fun x => w.link.mask.get x.cls) =
      (l.filter fun x => w.link.mask.get x.cls).map (settleReport w) := by
    rw [List.filter_map]; congr 1; apply List.filter_congr; intro x _; simp
  simp only [State.outgoing, State.updOut_link, State.updOut_out, hf, List.nil_append, List.map_append, keptReports,
    List.filter_append, hmap2, List.append_assoc]
  congr 3
  rw [← List.map_append, ← List.map_append, List.map_congr_left (fun x _ => hset x), List.map_append, hmap,
    List.map_append]

/-! ## Effects and answers -/

/-- A command that changes the records to those of `w`, queues the reports `l` on the way and leaves the outgoing side otherwise
as it was has the effect of `w`. -/
theorem effect_of {c : Instr} {s w after : State} {l reports : List Report} {sent : List DriveMsg}
    (hx : exec c s = .next (finishStep (queueReports l w))) (hs : w.settled = after.settled) (hsent : w.out.sent = sent)
    (hl : l.map (settleReport w) ++ cellDue w = reports) (hf : w.out.fresh = []) (hp : w.out.cellPlaced = false)
    (hq : w.link.txQueue = s.link.txQueue) (hb : w.link.sending = s.link.sending) (hslot : w.link.slot = s.link.slot)
    (hm : w.link.mask = s.link.mask) (hlost : w.link.reportsLost = s.link.reportsLost) :
    Effect c s after reports sent := by
  refine ⟨_, hx, ?_, ?_, ?_⟩
  · rw [finishStep_settled, queueReports_settled, hs]
  · rw [finishStep_out, queueReports_sent, hsent]
  · intro room
    have hlen : reports.length = l.length + (cellDue w).length := by rw [← hl]; simp
    have h := finishStep_outgoing l w hf hp (by rw [hq, ← hlen]; exact room)
    rw [h.1, h.2, hl, hm, hlost]
    simp [State.outgoing, hq, hb, hslot]

/-- R203: a request row whose frame stands at the head of the receive queue and may be taken does its work and gives the
reply. -/
theorem request_takes {names : Frame → Bool} {work : Frame → State → Handled} {s : State} {f : Frame} {rest : List Frame}
    (ht : Takes s f rest) (hn : names f = true) :
    request names work s =
      .next (finishStep (giveReply (replyTo f (work f (takeFrame rest (beginStep s))).body)
        (work f (takeFrame rest (beginStep s))).state)) := by
  unfold request
  rw [ht.1]
  simp [ht.2, hn]

/-- R204: while a frame may be taken, no reply is waiting or being sent. -/
theorem Takes.noSlot {s : State} {f : Frame} {rest : List Frame} (ht : Takes s f rest) : s.link.slot = none := by
  have h := ht.2
  simp only [Link.canTake, Bool.and_eq_true] at h
  exact Option.isNone_iff_eq_none.mp h.1.1

/-- A request row that changes the records to those of `w`, queues the reports `l` on the way and gives the reply `body` answers
so. -/
theorem answers_of {c : Instr} {s w after : State} {f : Frame} {body : ReplyBody}
    {l reports : List Report} {sent : List DriveMsg} (hx : exec c s = .next (finishStep (giveReply (replyTo f body) (queueReports l w)))) (hs : w.settled = after.settled)
    (hsent : w.out.sent = sent) (hl : l.map (settleReport w) ++ cellDue w = reports) (hf : w.out.fresh = [])
    (hp : w.out.cellPlaced = false) (hq : w.link.txQueue = s.link.txQueue) (hb : w.link.sending = s.link.sending)
    (hm : w.link.mask = s.link.mask) (hlost : w.link.reportsLost = s.link.reportsLost) :
    Answers c s f body after reports sent := by
  rw [giveReply_queues] at hx
  refine ⟨_, hx, ?_, ?_, ?_⟩
  · rw [finishStep_settled, queueReports_settled, ← hs]; rfl
  · rw [finishStep_out, queueReports_sent, ← hsent]; rfl
  · intro room
    have hlen : reports.length = l.length + (cellDue w).length := by rw [← hl]; simp
    have h := finishStep_outgoing l (giveReply (replyTo f body) w) hf hp
      (by show w.link.txQueue.length + (l.length + (cellDue w).length) ≤ _; rw [hq, ← hlen]; exact room)
    rw [h.1, h.2]
    have hset : ∀ x, settleReport (giveReply (replyTo f body) w) x = settleReport w x := by intro x; cases x <;> rfl
    rw [show cellDue (giveReply (replyTo f body) w) = cellDue w from rfl, List.map_congr_left (fun x _ => hset x), hl]
    have hmask : (giveReply (replyTo f body) w).link.mask = s.link.mask := hm
    refine ⟨?_, hlost⟩
    rw [hmask]
    simp [State.outgoing, giveReply, hq, hb]

end Sys2Proof.Machine
end

