-- ==== Sys2Proof/Laws/Boards.lean ====
section
/-! SUPPORT. Listed jobs and their boards under the updates of the Job List, and what an event of a board does (R23, R24). -/

namespace Sys2Proof.Machine

variable (s : State)

/-! ## Jobs -/

/-- A change that keeps the tags is seen by the job it names, and by no other. -/
theorem updJob_job? (tag n : Nat) (f : Job → Job) (hf : ∀ j, (f j).tag = j.tag) :
    (s.updJob tag f).job? n = if n = tag then (s.job? n).map f else s.job? n := by
  unfold State.updJob State.updJobs State.job?
  simp only [List.find?_map]
  have hp : ∀ x : Job, ((fun j => j.tag == n) ∘ fun j => if (j.tag == tag) = true then f j else j) x = (x.tag == n) := by
    intro x; simp only [Function.comp]; split <;> simp [hf]
  rw [show _ = _ from funext hp]
  cases h : List.find? (fun j => j.tag == n) s.jobs with
  | none => simp
  | some x =>
    have ht : x.tag = n := by simpa using List.find?_some h
    by_cases hn : n = tag
    · simp [hn] at ht ⊢; simp [ht]
    · simp [hn]; intro h'; omega

theorem updJob_job?_self (tag : Nat) (f : Job → Job) (hf : ∀ j, (f j).tag = j.tag) :
    (s.updJob tag f).job? tag = (s.job? tag).map f := by rw [updJob_job? s tag tag f hf]; simp

/-! ## Boards -/

/-- A board of a job after a change of one board that keeps its index. -/
theorem mapBoards_board? (j : Job) (i n : Nat) (f : BoardRec → BoardRec) (hf : ∀ b, (f b).index = b.index) :
    Job.board? { j with boards := j.boards.map fun b => if b.index == i then f b else b } n =
      if n = i then (j.board? n).map f else j.board? n := by
  unfold Job.board?
  simp only [List.find?_map]
  have hp : ∀ x : BoardRec, ((fun b => b.index == n) ∘ fun b => if (b.index == i) = true then f b else b) x =
      (x.index == n) := by
    intro x; simp only [Function.comp]; split <;> simp [hf]
  rw [show _ = _ from funext hp]
  cases h : List.find? (fun b => b.index == n) j.boards with
  | none => simp
  | some x =>
    have ht : x.index = n := by simpa using List.find?_some h
    by_cases hn : n = i
    · simp [hn] at ht ⊢; simp [ht]
    · simp [hn]; intro h'; omega

/-- A change of a board that keeps its index is seen by that board, and by no other. -/
theorem updBoard_board? (tag i m n : Nat) (f : BoardRec → BoardRec) (hf : ∀ b, (f b).index = b.index) :
    (s.updBoard tag i f).board? m n = if m = tag ∧ n = i then (s.board? m n).map f else s.board? m n := by
  unfold State.board? State.updBoard
  rw [updJob_job? s tag m _ (by intro j; rfl)]
  by_cases hm : m = tag
  · subst hm
    simp only [if_true, true_and]
    cases h : s.job? m with
    | none => simp
    | some j =>
      simp only [Option.map_some, Option.bind_some]
      exact mapBoards_board? j i n f hf
  · simp [hm]

theorem updBoard_board?_self (tag i : Nat) (f : BoardRec → BoardRec) (hf : ∀ b, (f b).index = b.index) :
    (s.updBoard tag i f).board? tag i = (s.board? tag i).map f := by rw [updBoard_board? s _ _ _ _ _ hf]; simp

/-- A change of a tab is seen by its board. -/
theorem updTab_board?_self (tag i ring : Nat) (f : TabRec → TabRec) :
    (s.updTab tag i ring f).board? tag i = (s.board? tag i).map fun b => { b with tabs := b.tabs.modify ring f } :=
  updBoard_board?_self s _ _ _ fun _ => rfl

@[simp] theorem enterBoardState_index (st : BoardState) (b : BoardRec) : (enterBoardState st b).index = b.index := by
  unfold enterBoardState; split <;> rfl

@[simp] theorem enterBoardState_state (st : BoardState) (b : BoardRec) : (enterBoardState st b).state = st := by
  unfold enterBoardState; split <;> rfl

/-- A state that is not final changes nothing else of a board. -/
theorem enterBoardState_open (st : BoardState) (h : st.final = false) :
    enterBoardState st = fun b => { b with state := st } := by
  funext b; simp [enterBoardState, h]

/-! ## Events of boards -/

/-- R23: an event for which the table gives the board's state no transition changes nothing. -/
theorem boardEvent_none (tag i : Nat) (e : BoardEvent) (h : (s.boardState tag i).bind (boardNext · e) = none) :
    boardEvent tag i e s = s := by
  simp [boardEvent, moveBoard, h]

/-- R23: an event that takes a board to a state that is not final changes that state and nothing else. -/
theorem boardEvent_open (tag i : Nat) (e : BoardEvent) (st : BoardState)
    (h : (s.boardState tag i).bind (boardNext · e) = some st) (ho : st.final = false) :
    boardEvent tag i e s = s.updBoard tag i fun b => { b with state := st } := by
  simp [boardEvent, moveBoard, h, ho, enterBoardState_open]

/-- R24: an event that takes a board to a final state: its open tabs are NOT CUT, its BOARD DONE is queued, and the completion of
its job is tested. -/
theorem boardEvent_final (tag i : Nat) (e : BoardEvent) (st : BoardState)
    (h : (s.boardState tag i).bind (boardNext · e) = some st) (hf : st.final = true) :
    boardEvent tag i e s = completeJob tag (reportBoard tag i (s.updBoard tag i (enterBoardState st))) := by
  simp [boardEvent, moveBoard, h, hf]

end Sys2Proof.Machine
end

