-- ==== Sys2Proof/Laws/Fields.lean ====
section
/-! SUPPORT. Fields written and read back: a value within its field's width is read as it was written, and the bytes behind it are
left. -/

namespace Sys2Proof.Machine

variable (rest : List Byte)

theorem byte1_enc1 (n : Nat) (h : n < 256) : byte1 (enc1 n ++ rest) = some (n, rest) := by
  simp [byte1, enc1]; omega

theorem byte2_enc2 (n : Nat) (h : n < 65536) : byte2 (enc2 n ++ rest) = some (n, rest) := by
  simp [byte2, enc2]; omega

theorem byte1_encBool (b : Bool) : byte1 (encBool b ++ rest) = some (if b then 1 else 0, rest) := by
  cases b <;> rfl

theorem bytesN_append (l : List Byte) : bytesN l.length (l ++ rest) = some (l, rest) := by simp [bytesN]

theorem text_encText (t : List Byte) (h : t.length < 256) : text (encText t ++ rest) = some (t, rest) := by
  unfold text encText
  rw [List.append_assoc, byte1_enc1 _ _ h]
  exact bytesN_append rest t

/-- A list of one-byte numbers is written as a text of their bytes. -/
theorem encList_enc1 (l : List Nat) : encList enc1 l = encText (l.map (BitVec.ofNat 8)) := by
  simp only [encList, encText, List.length_map]
  congr 1
  induction l with
  | nil => rfl
  | cons x l ih => simp [ih, enc1]

theorem byteList_encList (l : List Nat) (h : l.length < 256) (hb : ∀ n ∈ l, n < 256) :
    byteList (encList enc1 l ++ rest) = some (l, rest) := by
  unfold byteList
  rw [encList_enc1, text_encText _ _ (by simpa using h)]
  simp only [Option.map_some, List.map_map]
  congr 2
  conv => rhs; rw [← List.map_id l]
  apply List.map_congr_left
  intro x hx
  have := hb x hx
  simp; omega

/-- A payload that holds nothing behind its fields is read whole. -/
theorem whole_of {α : Type} {r : Reader α} {p : List Byte} {x : α} (h : r p = some (x, [])) : whole r p = some x := by
  simp [whole, h]

/-- R83: a bit descriptor is read back as it was written. -/
theorem rawBit_encBit (d : BitDesc) (h1 : d.d < 65536) (h2 : d.u < 65536) (h3 : d.s < 65536) (h4 : d.nreq < 256)
    (h5 : d.lb < 65536) : rawBit (encBit d ++ rest) = some (d, rest) := by
  simp [rawBit, encBit, List.append_assoc, byte2_enc2, byte1_enc1, h1, h2, h3, h4, h5]

end Sys2Proof.Machine
end

