-- ==== Sys2Proof/Laws/Motions.lean ====
section
/-! SUPPORT. The head's motions (R129), the bays' records and latches (R178), listed jobs named by their place (R18), and the ends of
a tool change (R123). -/

namespace Sys2Proof.Machine

variable {s : State}

/-! ## The head's motions -/

/-- A completion that is not that of the motion in flight is about no motion. -/
theorem motionIs_false {k : MotionKind} {req : ReqNo} (h : s.pick.motion ≠ .inFlight k req) : s.motionIs k req = false := by
  unfold State.motionIs
  split
  · rename_i k' r hk
    rw [hk] at h
    simp at h ⊢
    exact fun h1 h2 => h h1 h2
  · rfl

/-- R129: where the mode allows the kind, the motion is in flight with the group's next number. -/
theorem startMotion_sent {k : MotionKind} (h : k.startsIn s.mode.mode = true) :
    startMotion k s =
      sendRequest .pick (motionRequest k s) (s.updPick fun p => { p with motion := .inFlight k s.drive.pick }) := by
  simp only [startMotion, h, ↓reduceIte]
  rfl

/-- R129: elsewhere it is held. -/
theorem startMotion_held {k : MotionKind} (h : ¬ k.startsIn s.mode.mode = true) :
    startMotion k s = s.updPick fun p => { p with motion := .held k } := by
  simp only [startMotion, h]
  rfl

/-- With no motion held, none starts at an entry into RUN or PAUSED. -/
theorem startHeldMotion_none (h : ∀ k, s.pick.motion ≠ .held k) : startHeldMotion s = s := by
  unfold startHeldMotion
  split
  · rename_i k hk
    exact absurd hk (h k)
  · rfl

/-! ## The bays -/

@[simp] theorem updBayRec_bayRec (b : Bay) (f : BayRec → BayRec) : (s.updBayRec b f).bayRec b = f (s.bayRec b) := by
  simp [State.updBayRec, State.bayRec, State.updBay]

theorem updBayRec_updBayRec (b : Bay) (f g : BayRec → BayRec) :
    (s.updBayRec b f).updBayRec b g = s.updBayRec b (g ∘ f) := by
  simp [State.updBayRec, State.updBay]

/-- A change of a bay's record is its replacement by the record changed. -/
theorem updBayRec_eq (b : Bay) (f : BayRec → BayRec) : s.updBayRec b f = s.updBayRec b fun _ => f (s.bayRec b) := by
  simp [State.updBayRec, State.updBay, State.bayRec]

/-- With the bay's latch not held, none opens at an entry into RUN or PAUSED. -/
theorem openHeldLatch_none {b : Bay} (h : (s.bayRec b).latch ≠ .held) : openHeldLatch b s = s := by
  unfold openHeldLatch
  split
  · rename_i hk
    exact absurd hk h
  · rfl

/-- A map with no RESERVED slot names no board. -/
theorem reservedRun_none {l : List Slot} (h : anyReserved l = false) :
    ∀ i, (runsFrom i l).find? (fun e => e.state == .reserved) = none := by
  induction l with
  | nil => exact fun _ => rfl
  | cons x t ih =>
    intro i
    simp only [anyReserved, List.any_cons, Bool.or_eq_false_iff] at h
    have ht := ih (by simpa [anyReserved] using h.2)
    unfold runsFrom
    split
    · simp only [List.find?_cons]
      rw [h.1]
      exact ht _
    · exact ht _

/-! ## Listed jobs -/

theorem Lists.job? {before after : List Job} {j : Job} (h : Lists s before j after) : s.job? j.tag = some j := by
  obtain ⟨h1, h2, _⟩ := h
  unfold State.job?
  rw [h1, List.find?_append, List.find?_eq_none.mpr (fun x hx => by simpa using h2 x hx)]
  simp

/-- A change of the job named is a change at its place in the list. -/
theorem Lists.updJob {before after : List Job} {j : Job} (h : Lists s before j after) (f : Job → Job) :
    s.updJob j.tag f = s.updJobs fun _ => before ++ f j :: after := by
  obtain ⟨h1, h2, h3⟩ := h
  have same : ∀ l : List Job, (∀ k ∈ l, k.tag ≠ j.tag) → l.map (fun k => if (k.tag == j.tag) = true then f k else k) = l := by
    intro l hl
    conv => rhs; rw [← List.map_id l]
    exact List.map_congr_left fun k hk => by simp [hl k hk]
  simp only [State.updJob, State.updJobs, h1, List.map_append, List.map_cons, same _ h2, same _ h3]
  simp

/-! ## The tool change -/

/-- R123: a failed change, while CHANGER FAULT is clear. -/
theorem failChanger_clear (c : ToolCause) (h : s.link.flags.changerFault = false) :
    failChanger c s =
      queueReports
        [ .flagRaised .changerFault (s.link.flags.raise .changerFault),
          .toolState (toolReportOf c (clearBit { s.tool with rack := s.tool.rack.drop 1, op := none })) ]
        ((s.updTool fun t => clearBit { t with rack := t.rack.drop 1, op := none }).updLink fun l =>
          { l with flags := { l.flags with changerFault := true } }) := by
  have hr : ∀ f : FlagSet, f.raise .changerFault = { f with changerFault := true } := by
    intro f
    simp [FlagSet.raise, FlagSet.ofTest, FlagSet.get]
  simp only [failChanger]
  rw [raiseFlag_clear _ _ (by exact h)]
  simp only [hr]
  simp [toolReport, queueReports]

end Sys2Proof.Machine
end

