-- ==== Sys2Proof/Laws/Modes.lean ====
section
/-! SUPPORT. What the Mode Controller's operations make of the mode record (R182), and the steps in which every group is sent one
request. -/

namespace Sys2Proof.Machine

variable {s : State}

/-- A working block's operation keeps the mode record. -/
theorem mode_of_fixed {t : State} (h : t.fixed = s.fixed) : t.mode = s.mode := (State.fixed_iff s t).mp h |>.2.2.2.2.1

/-! ## Line-hold outputs (R197) -/

theorem setOutputs_cases (s : State) :
    setOutputs s = s.updMode (fun _ => drivenLines s.mode) ∨
      setOutputs s = markCell .lineOut (s.updMode fun _ => drivenLines s.mode) := by
  unfold setOutputs
  dsimp only
  split
  · exact .inr rfl
  · exact .inl rfl

@[simp] theorem setOutputs_mode (s : State) : (setOutputs s).mode = drivenLines s.mode := by
  rcases setOutputs_cases s with e | e <;> rw [e] <;> rfl

@[simp] theorem drivenLines_mode (m : ModeRec) : (drivenLines m).mode = m.mode := rfl
@[simp] theorem drivenLines_pause (m : ModeRec) : (drivenLines m).pause = m.pause := rfl
@[simp] theorem drivenLines_stop (m : ModeRec) : (drivenLines m).stop = m.stop := rfl
@[simp] theorem drivenLines_faulted (m : ModeRec) : (drivenLines m).faulted = m.faulted := rfl
@[simp] theorem drivenLines_straps (m : ModeRec) : (drivenLines m).straps = m.straps := rfl
@[simp] theorem drivenLines_options (m : ModeRec) : (drivenLines m).options = m.options := rfl

/-- A change of mode hides the events of CELL STATE that may come before it in a step (R200). -/
theorem markCell_mode_setOutputs (h : s.out.cellEvent = none ∨ s.out.cellEvent = some .cause) :
    markCell .mode (setOutputs s) =
      markCell .mode { (s.updMode fun _ => drivenLines s.mode) with out := { s.out with cellEvent := none } } := by
  rcases setOutputs_cases s with e | e <;> rw [e] <;> rcases h with h | h <;>
    simp [markCell, State.updOut, State.updMode, h, CellEvent.rank]

/-! ## Entries into a mode (R191) -/

@[simp] theorem enterRun_mode (s : State) : (enterRun s).mode = s.mode := mode_of_fixed (enterRun_fixed s)
@[simp] theorem enterPaused_mode (s : State) : (enterPaused s).mode = s.mode := mode_of_fixed (enterPaused_fixed s)

/-- With nothing held back, the entry into PAUSED starts nothing. -/
theorem enterPaused_none (h : NothingHeld s) : enterPaused s = s := by
  simp [enterPaused, startHeldMotion_none h.1, allBays, openHeldLatch_none (h.2 _)]

/-- R191, R197: the mode record after a change of mode. -/
@[simp] theorem setMode_mode (m : Mode) (s : State) :
    (setMode m s).mode = drivenLines { s.mode with mode := m } := by
  cases m <;> simp [setMode, markCell]

/-! ## Park motions (R195) -/

/-- Outside PARKING no group is sent a park motion. -/
theorem parkTest_other (h : s.mode.mode ≠ .parking) : parkTest s = s := by
  have hg : ∀ g, parkGroup s g = s := by
    intro g
    simp [parkGroup, h]
  simp [parkTest, groups, hg]

/-- With a pause cause present no group is sent a park motion. -/
theorem parkTest_paused (h : s.mode.pause.any = true) : parkTest s = s := by
  have hg : ∀ g, parkGroup s g = s := by
    intro g
    simp [parkGroup, h]
  simp [parkTest, groups, hg]

/-- The park test changes nothing of the mode record but the park motions in flight. -/
theorem parkTest_mode (s : State) : ∃ r, (parkTest s).mode = { s.mode with parkReq := r } := by
  have hg : ∀ (u : State) g, ∃ r, (parkGroup u g).mode = { u.mode with parkReq := r } := by
    intro u g
    unfold parkGroup
    split
    · exact ⟨_, rfl⟩
    · exact ⟨u.mode.parkReq, rfl⟩
  have hl : ∀ (l : List Group) (u : State), ∃ r, (l.foldl parkGroup u).mode = { u.mode with parkReq := r } := by
    intro l
    induction l with
    | nil => exact fun u => ⟨u.mode.parkReq, rfl⟩
    | cons g l ih =>
      intro u
      obtain ⟨r, hr⟩ := ih (parkGroup u g)
      obtain ⟨r', hr'⟩ := hg u g
      exact ⟨r, by rw [List.foldl_cons, hr, hr']⟩
  exact hl groups s

/-! ## Pause causes (R191, R194) -/

/-- What the mode does with its pause-cause set: from RUN it is PAUSED while a cause stands, from PAUSED it is RUN when none does,
and in every other mode it stands. -/
theorem followPause_mode (s : State) :
    (s.mode.mode = .run ∧ s.mode.pause.any = true ∧ (followPause s).mode = drivenLines { s.mode with mode := .paused }) ∨
    (s.mode.mode = .paused ∧ s.mode.pause.any = false ∧ (followPause s).mode = drivenLines { s.mode with mode := .run }) ∨
    ((s.mode.mode = .run → s.mode.pause.any = false) ∧ (s.mode.mode = .paused → s.mode.pause.any = true) ∧
      ∃ r, (followPause s).mode = { s.mode with parkReq := r }) := by
  unfold followPause
  split
  · rename_i h
    split
    · rename_i hp
      exact .inl ⟨h, hp, by simp⟩
    · rename_i hp
      exact .inr (.inr ⟨fun _ => by simpa using hp, by simp [h], _, rfl⟩)
  · rename_i h
    split
    · rename_i hp
      exact .inr (.inr ⟨by simp [h], fun _ => hp, _, rfl⟩)
    · rename_i hp
      exact .inr (.inl ⟨h, by simpa using hp, by simp⟩)
  · rename_i h
    exact .inr (.inr ⟨by simp [h], by simp [h], parkTest_mode s⟩)
  · rename_i h1 h2 _
    exact .inr (.inr ⟨fun h => absurd h h1, fun h => absurd h h2, _, rfl⟩)

/-! ## Stops (R192) -/

/-- R192: the mode record after a stop cause is added. -/
theorem addStop_mode (c : StopCause) (s : State) :
    (addStop c s).mode =
      if s.mode.mode = .stopped then { s.mode with stop := s.mode.stop.add c }
      else
        drivenLines (abandonHoming s.mode.mode
          { s.mode with stop := s.mode.stop.add c, mode := .stopped, haltReq := nextOfEach s }) := by
  unfold addStop
  dsimp only
  split
  · rename_i h
    rw [if_pos (by exact h)]
    rfl
  · rename_i h
    rw [if_neg (by exact h)]
    have hb : ∀ (m : Mode) (u : State), (stopBlocks m c u).mode = abandonHoming m u.mode := by
      intro m u
      unfold stopBlocks
      dsimp only
      refine congrArg (abandonHoming m) (mode_of_fixed ?_)
      simp only [updBay_fixed, haltChanger_fixed, updPick_fixed, updShut_fixed]
      split <;> simp
    show (setOutputs _).mode = _
    rw [setOutputs_mode, hb]
    rfl

/-! ## One request to every group -/

/-- R191: referencing is requested of every group. -/
theorem requestReferencing_eq (s : State) :
    requestReferencing s =
      { (s.updMode fun m => { m with referenced := State.noGroups, refReq := nextOfEach s }).numberedAll with
        out := { s.out with sent := s.out.sent ++ toEach s (.reference s.mode.homing) } } := by
  simp [requestReferencing, groups, referenceGroup, sendRequest, State.updMode, State.numberedAll, State.numbered,
    State.updDrive, nextOfEach, toEach, nextReq, PerGroup.set, PerGroup.get]

/-- The output of a step that has changed the mode and sent `l`. -/
def modeOutput (l : List DriveMsg) : Output := { sent := l, fresh := [], cellEvent := some .mode, cellPlaced := false }

/-- R193, R196: homing begins, on a step's state whose mode record has become `m`. -/
theorem startHoming_eq (kind : HomingKind) (m : ModeRec) (U u : State) (hU : U.out = emptyOutput)
    (hu : u = markCell .cause (U.updMode fun _ => m) ∨ u = U.updMode fun _ => m) :
    startHoming kind u =
      { (U.withMode
          { m with
            mode := .homing, homing := kind, referenced := State.noGroups, refReq := nextOfEach U }).numberedAll with
        out := modeOutput (toEach U (.reference kind)) } := by
  have hc : u.out.cellEvent = none ∨ u.out.cellEvent = some .cause := by
    rcases hu with h | h <;> rw [h] <;> simp [hU, emptyOutput, markCell]
  unfold startHoming setMode
  simp only
  rw [markCell_mode_setOutputs (by simpa using hc), requestReferencing_eq]
  cases U with
  | mk l mo st jo shu se tl pi ro ba dr ou fr pe =>
    simp only at hU
    subst hU
    rcases hu with h | h <;> subst h <;>
      simp [State.updMode, markCell, State.updOut, State.withMode, State.numberedAll, State.numbered, State.updDrive,
        modeOutput, toEach, nextReq, nextOfEach, drivenLines, emptyOutput]

/-- R195: parking begins, on a step's state whose mode record has become `m`. -/
theorem setMode_parking_eq (m : ModeRec) (U : State) (hU : U.out = emptyOutput) :
    setMode .parking (U.updMode fun _ => m) = { U.withMode { m with mode := .parking } with out := modeOutput [] } := by
  unfold setMode
  simp only
  rw [markCell_mode_setOutputs (.inl (by simp [hU, emptyOutput]))]
  cases U with
  | mk l mo st jo shu se tl pi ro ba dr ou fr pe =>
    simp only at hU
    subst hU
    simp [State.updMode, markCell, State.updOut, State.withMode, modeOutput, drivenLines, emptyOutput]

/-- R195: a group that is idle, not parked and not on its way is sent its park motion. -/
theorem parkGroup_sent {g : Group}
    (h : s.mode.mode = .parking ∧ s.mode.pause.any = false ∧ groupBusy s g = false ∧ s.mode.parkReq.get g = none ∧
      s.mode.parkDone.get g = false) :
    parkGroup s g = sendRequest g .park (s.updMode fun m => { m with parkReq := m.parkReq.set g (some (nextReq g s)) }) := by
  unfold parkGroup
  rw [if_pos h]

/-- R195: a group that waits for its park motion is sent it in PARKING once no pause cause stands, and no other group is. -/
theorem parkGroup_eq (g : Group) (hm : s.mode.mode = .parking) (hp : s.mode.pause.any = false) :
    parkGroup s g =
      if s.parkDue g then
        sendRequest g .park (s.updMode fun m => { m with parkReq := m.parkReq.set g (some (nextReq g s)) })
      else s := by
  simp [parkGroup, State.parkDue, hm, hp, and_assoc]

/-- The park motion of one group leaves the others' as they stand. -/
theorem parkDue_parkGroup {g k : Group} (hk : k ≠ g) : (parkGroup s g).parkDue k = s.parkDue k := by
  unfold parkGroup
  split
  · cases g <;> cases k <;> first | exact absurd rfl hk | rfl
  · rfl

@[simp] theorem parkGroup_pause (g : Group) : (parkGroup s g).mode.pause = s.mode.pause := by unfold parkGroup; split <;> rfl
@[simp] theorem parkGroup_mode (g : Group) : (parkGroup s g).mode.mode = s.mode.mode := by unfold parkGroup; split <;> rfl

/-- R195: what the test of every group does in PARKING once no pause cause stands. -/
theorem parkTest_parking (hm : s.mode.mode = .parking) (hp : s.mode.pause.any = false) :
    parkTest s = { s.parksRequested with out := { s.out with sent := s.out.sent ++ s.parksSent } } := by
  simp only [parkTest, groups, List.foldl]
  rw [parkGroup_eq .bay (by simp [hm]) (by simp [hp]),
    parkDue_parkGroup (by decide), parkDue_parkGroup (by decide), parkDue_parkGroup (by decide),
    parkGroup_eq .shuttle (by simp [hm]) (by simp [hp]),
    parkDue_parkGroup (by decide), parkDue_parkGroup (by decide),
    parkGroup_eq .pick (by simp [hm]) (by simp [hp]),
    parkDue_parkGroup (by decide), parkGroup_eq .spindle hm hp]
  cases h1 : s.parkDue .spindle <;> cases h2 : s.parkDue .pick <;> cases h3 : s.parkDue .shuttle <;>
    cases h4 : s.parkDue .bay <;>
    simp [State.parksRequested, State.parksSent, groups, h1, h2, h3, h4, sendRequest, State.updMode, State.numbered,
      State.updDrive, nextReq, PerGroup.set, PerGroup.get]

end Sys2Proof.Machine
end

