-- ==== Sys2Proof/Laws/Requests.lean ====
section
/-! SUPPORT. How a request is taken (R203): what the row of a frame that stands at the head of the queue answers, once its payload is
read; and a step that queues no report. -/

namespace Sys2Proof.Machine

variable {s : State} {f : Frame} {rest : List Frame}

/-- A request with no fields reads an empty payload. -/
theorem whole_noFields : whole noFields [] = some () := rfl

/-- A frame of a kind is one that a row of that kind names. -/
theorem Asks.ofKind {k : Byte} {p : List Byte} (h : Asks s f rest k p) : ofKind k f = true := by simp [Machine.ofKind, h.2.1]

/-- R203, steps 2 to 4: outside PARKED a payload that reads whole is handed to the owner. -/
theorem guarded_read {α : Type} {r : Reader α} {owner : α → State → Handled} {x : α} (hm : s.mode.mode ≠ .parked)
    (hp : whole r f.payload = some x) : guarded r owner f s = owner x s := by simp [guarded, hm, hp]

/-- R203, step 2: in PARKED a request is refused. -/
theorem guarded_parked {α : Type} {r : Reader α} {owner : α → State → Handled} (hm : s.mode.mode = .parked) :
    guarded r owner f s = refuse .parked s := by simp [guarded, hm]

/-- R203, step 3: a payload that does not read whole is refused. -/
theorem guarded_length {α : Type} {r : Reader α} {owner : α → State → Handled} (hm : s.mode.mode ≠ .parked)
    (hp : whole r f.payload = none) : guarded r owner f s = refuse .badLength s := by simp [guarded, hm, hp]

/-! R6: every reply to one of the three recipe requests carries the free count. -/

@[simp] theorem withFree_refused (n : Nat) (r : Result) : (ReplyBody.refused r).withFree n = .refusedFree r n := rfl
@[simp] theorem withFree_badField (n x : Nat) (b t : Option Nat) :
    (ReplyBody.badField x b t).withFree n = .badFieldFree x b t n := rfl
@[simp] theorem withFree_fullRoom (n a r k : Nat) : (ReplyBody.fullRoom a r k).withFree n = .fullRoom a r k := rfl
@[simp] theorem withFree_ok (n : Nat) (b : OkBody) : (ReplyBody.ok b).withFree n = .ok b := rfl

theorem recipeGuarded_read {α : Type} {r : Reader α} {owner : α → State → Handled} {x : α} (hm : s.mode.mode ≠ .parked)
    (hp : whole r f.payload = some x) :
    recipeGuarded r owner f s =
      { state := (owner x s).state, body := (owner x s).body.withFree (owner x s).state.store.free } := by
  simp [recipeGuarded, guarded_read hm hp]

theorem recipeGuarded_parked {α : Type} {r : Reader α} {owner : α → State → Handled} (hm : s.mode.mode = .parked) :
    recipeGuarded r owner f s = { state := s, body := .refusedFree .parked s.store.free } := by
  simp [recipeGuarded, guarded_parked hm, refuse]

theorem recipeGuarded_length {α : Type} {r : Reader α} {owner : α → State → Handled} (hm : s.mode.mode ≠ .parked)
    (hp : whole r f.payload = none) :
    recipeGuarded r owner f s = { state := s, body := .refusedFree .badLength s.store.free } := by
  simp [recipeGuarded, guarded_length hm hp, refuse]

/-- The row of a frame at the head of the queue answers what its work gives for that frame. -/
theorem request_answers {names : Frame → Bool} {work : Frame → State → Handled} (ht : Takes s f rest) (hn : names f = true)
    {w : State} {body : ReplyBody} (hw : work f (takeFrame rest (beginStep s)) = { state := w, body := body }) :
    request names work s = .next (finishStep (giveReply (replyTo f body) w)) := by
  rw [request_takes ht hn, hw]

/-- The row of a request whose payload reads whole, outside PARKED, answers what its owner gives. -/
theorem request_read {c : Instr} {names : Frame → Bool} {α : Type} {r : Reader α} {owner : α → State → Handled} {k : Byte}
    {p : List Byte} {x : α} (hx : exec c s = request names (guarded r owner) s) (ha : Asks s f rest k p)
    (hn : names f = true) (hm : s.mode.mode ≠ .parked) (hp : whole r p = some x) :
    exec c s = .next (finishStep (giveReply (replyTo f (owner x (takeFrame rest (beginStep s))).body)
      (owner x (takeFrame rest (beginStep s))).state)) := by
  rw [hx, request_takes ha.1 hn, guarded_read (by exact hm) (by rw [ha.2.2]; exact hp)]

/-- A step that queues no report has its effect and nothing more. -/
theorem effect_plain {c : Instr} {w after : State} {sent : List DriveMsg} (hx : exec c s = .next (finishStep w))
    (hs : w.settled = after.settled) (hsent : w.out.sent = sent) (hf : w.out.fresh = []) (hp : w.out.cellPlaced = false)
    (hc : w.out.cellEvent = none) (hq : w.link.txQueue = s.link.txQueue) (hb : w.link.sending = s.link.sending)
    (hslot : w.link.slot = s.link.slot) (hm : w.link.mask = s.link.mask) (hlost : w.link.reportsLost = s.link.reportsLost) :
    Effect c s after [] sent :=
  effect_of (l := []) (w := w) hx hs hsent (by simp [cellDue, hc]) hf hp hq hb hslot hm hlost

/-- A request's step that queues no report answers it and does nothing more. -/
theorem answers_plain {c : Instr} {w after : State} {body : ReplyBody} {sent : List DriveMsg}
    (hx : exec c s = .next (finishStep (giveReply (replyTo f body) w))) (hs : w.settled = after.settled)
    (hsent : w.out.sent = sent) (hf : w.out.fresh = []) (hp : w.out.cellPlaced = false) (hc : w.out.cellEvent = none)
    (hq : w.link.txQueue = s.link.txQueue) (hb : w.link.sending = s.link.sending) (hm : w.link.mask = s.link.mask)
    (hlost : w.link.reportsLost = s.link.reportsLost) : Answers c s f body after [] sent :=
  answers_of (l := []) (w := w) hx hs hsent (by simp [cellDue, hc]) hf hp hq hb hm hlost

@[simp] theorem giveReply_mode (r : Reply) : (giveReply r s).mode = s.mode := rfl
@[simp] theorem takeFrame_mode : (takeFrame rest s).mode = s.mode := rfl

end Sys2Proof.Machine
end

