-- ==== Sys2Proof/Laws/Stops.lean ====
section
/-! SUPPORT. What the raising of a flag, a link error and the parts of a stop do, in the terms of the statements. -/

namespace Sys2Proof.Machine

variable (s : State)

/-! ## Flags and link errors (R202, R206) -/

/-- Setting a flag that is set changes nothing. -/
theorem FlagSet.raise_set (f : FlagSet) (x : Flag) (h : f.get x = true) : f.raise x = f := by
  obtain ⟨⟩ := f
  cases x <;> simp_all [FlagSet.raise, FlagSet.get, FlagSet.ofTest]

theorem flagged_set (x : Flag) (h : s.link.flags.get x = true) : s.flagged x = s := by
  simp [State.flagged, State.updLink, FlagSet.raise_set _ _ h]

/-- R206: the flag is set, and FLAG RAISED is queued where it was clear. -/
theorem raiseFlag_spec (x : Flag) : raiseFlag x s = queueReports (s.raising x) (s.flagged x) := by
  by_cases h : s.link.flags.get x = true
  · simp [raiseFlag_set s x h, State.raising, h, flagged_set]
  · simp only [Bool.not_eq_true] at h
    simp [raiseFlag_clear s x h, State.raising, h, State.flagged]

/-- R202: a link error counts, sets LINK ERROR, and is reported where the flag was clear. -/
theorem linkError_spec : linkError s = queueReports (s.raising .linkError) s.linkErred :=
  raiseFlag_spec _ _

@[simp] theorem flagged_flags (x : Flag) : (s.flagged x).link.flags = s.link.flags.raise x := rfl
@[simp] theorem flagged_slot (x : Flag) : (s.flagged x).link.slot = s.link.slot := rfl
@[simp] theorem flagged_txQueue (x : Flag) : (s.flagged x).link.txQueue = s.link.txQueue := rfl
@[simp] theorem flagged_sending (x : Flag) : (s.flagged x).link.sending = s.link.sending := rfl
@[simp] theorem flagged_fixed (x : Flag) : (s.flagged x).fixed = s.fixed := rfl
@[simp] theorem flagged_drive (x : Flag) : (s.flagged x).drive = s.drive := rfl

/-! ## The parts of a stop (R192) -/

/-- R192, step 1, and R1: the four halts, each with its group's next number, are in flight. -/
theorem haltGroups_eq :
    haltGroups s =
      { (s.updMode fun m => { m with haltReq := nextOfEach s }).numberedAll with
        out := { s.out with sent := s.out.sent ++ halts s } } := by
  simp [haltGroups, groups, haltGroup, sendRequest, State.updMode, State.numberedAll, State.numbered, State.updDrive, halts,
    toEach, nextReq, nextOfEach, PerGroup.set, PerGroup.get]

@[simp] theorem haltGroups_mode : (haltGroups s).mode = { s.mode with haltReq := nextOfEach s } := by
  rw [haltGroups_eq]
  rfl

@[simp] theorem haltGroups_drive : (haltGroups s).drive = s.numberedAll.drive := by
  rw [haltGroups_eq]
  rfl
@[simp] theorem haltGroups_seq : (haltGroups s).seq = s.seq := by simp [haltGroups, groups, haltGroup]
@[simp] theorem haltGroups_pick : (haltGroups s).pick = s.pick := by simp [haltGroups, groups, haltGroup]
@[simp] theorem haltGroups_tool : (haltGroups s).tool = s.tool := by simp [haltGroups, groups, haltGroup]
@[simp] theorem haltGroups_bay : (haltGroups s).bay = s.bay := by simp [haltGroups, groups, haltGroup]
@[simp] theorem haltGroups_shut : (haltGroups s).shut = s.shut := by simp [haltGroups, groups, haltGroup]

/-! R1: the end of a halt by a fault event about it. -/

@[simp] theorem endHalt_none (g : Group) (m : ModeRec) : endHalt g none m = m := rfl

theorem endHalt_self (g : Group) (req : Option ReqNo) (m : ModeRec) (n : ReqNo) (h : req = some n) :
    (endHalt g req m).haltReq.get g ≠ some n := by
  subst h
  unfold endHalt
  split
  · cases g <;> simp [PerGroup.set, PerGroup.get]
  · rename_i h
    simpa using h

theorem interruptMove_spec (r : ShuttleRec) : interruptMove r = r.stopped := by
  cases h : r.state <;> simp [interruptMove, ShuttleRec.stopped, h]

theorem stopPick_spec (p : PickRec) : stopPick p = p.stopped := by
  cases h : p.motion <;> simp [stopPick, PickRec.stopped, holdMotion, h]

theorem holdLatch_spec (r : BayRec) : holdLatch r = r.stopped := by
  obtain ⟨⟩ := r
  rename_i l _ _
  simp only [holdLatch, BayRec.stopped]
  split <;> simp_all

/-- R192, R194: what a stop makes of the mode record. -/
theorem abandonHoming_spec (m : ModeRec) : { abandonHoming m.mode m with mode := .stopped } = m.stopped := by
  cases h : m.mode <;> simp [abandonHoming, ModeRec.stopped, h]

/-- R124: a MOVING tool change is HALTED and reported; nothing else is changed. -/
theorem haltChanger_spec : haltChanger s = queueReports s.haltReport (s.updTool ToolRec.stopped) := by
  unfold haltChanger State.haltReport State.changerMoving ToolRec.stopped
  rcases h : s.tool.op with _ | op
  · simp only [State.updTool, h, Option.map_none, Bool.false_eq_true, if_false, queueReports_nil]
    rw [← h]
  · cases hp : op.phase <;> simp [State.updTool, h, hp, toolReport] <;> rw [← h]

theorem interruptPass_none (c : StopCause) (h : s.seq.pass = none) : interruptPass c s = s := by simp [interruptPass, h]

theorem settleHeldPass_none (h : s.pick.heldPass = false) : settleHeldPass s = s := by
  simp only [settleHeldPass, h, Bool.false_and, Bool.false_eq_true, if_false]
  split <;> rfl

/-- R192, step 2: with no pass in flight a stop queues the report of a halted tool change and nothing else. -/
theorem stopBlocks_noPass (before : Mode) (c : StopCause) (hp : s.seq.pass = none) (hh : s.pick.heldPass = false) :
    stopBlocks before c s =
      queueReports s.haltReport
        (((((s.updShut fun c => { c with a := c.a.stopped, b := c.b.stopped }).updPick PickRec.stopped).updTool
          ToolRec.stopped).updBay fun c => { c with bays := c.bays.map BayRec.stopped }).updMode (abandonHoming before)) := by
  simp only [stopBlocks, interruptPass_none s c hp, settleHeldPass_none s hh, hp, interruptMove_spec,
    funext stopPick_spec, funext holdLatch_spec, haltChanger_spec]
  by_cases h : s.changerMoving <;>
    simp_all [State.haltReport, State.changerMoving, State.updShut, State.updPick, updBay_queue, updMode_queue]

end Sys2Proof.Machine
end

