-- ==== Sys2Proof/WellFormed.lean ====
section
/-! DEFINITION. The operands a command can carry: what the cell can send. Every meaning is total on ill-formed operands
as well; this check says which terms stand for an event the manual knows. -/

namespace Sys2Proof

/-- A slot index lies in 0–49 (00_scope.md, Identifiers and their ranges). -/
def slotIndexOk (slot : Nat) : Bool := slot < 50

/-- A bay beyond the strapped count is absent and has no lines (R159), so no magazine can be shown in it. -/
def Pins.ok (p : Pins) : Bool :=
  match p.straps.bays with
  | .four => true
  | .two => !p.magazines[2] && !p.magazines[3]

/-- The command is one the manual's outside world can send. -/
def Instr.wellFormed : Instr → Bool
  | .powerOnReset pins => pins.ok
  | .frameReceived bytes => !bytes.isEmpty
  | .slotSeated _ slot => slotIndexOk slot
  | .referencingComplete _ _ occupied => occupied.all slotIndexOk
  | _ => true

end Sys2Proof
end

