-- ==== Sys2Proof/Tests/Slice0.lean ====
section
/-! SUPPORT. Tests: operands that the well-formedness check refuses, figures worked out in the manual, and for each statement with
hypotheses the states and operands that meet them, clause by clause. -/

namespace Sys2Proof.Tests

open Sys2Proof Sys2Proof.Machine

/-! ## Small states -/

/-- The machine of `State.reset`, homed, in a mode and with the transmitter idle; nothing is in flight. -/
def still (m : Mode) : State :=
  { State.reset with
    link := { State.reset.link with sending := none }
    mode :=
      { State.resetMode with
        mode := m, pause := { host := m == .paused, line := false },
        stop := { estop := m == .stopped, door := false, driveFault := false, cutWatch := false }
        homing := .inPlace, refReq := PerGroup.const none }
    out := emptyOutput }

/-- A frame of a kind and payload. -/
def frame (kind : Byte) (payload : List Byte) : Frame := { kind := kind, tag := 1#8, payload := payload }

/-- A frame waits in the receive queue. -/
def heard (kind : Byte) (payload : List Byte) (s : State) : State :=
  s.updLink fun l => { l with rxQueue := [frame kind payload] }

/-- A tab entry, at the narrowest. -/
def tab : TabEntry := { tx := 0, ty := 0, w := 30, dir := .x }

/-- A recipe of one board of three tabs, its fields at bounds of their ranges. -/
def recipe : Recipe :=
  { number := 1, pw := 1000, ph := 35000, t := 40, hc := 2500, f := 100, o := 50, b := 0, zc := 100, passLimit := 3,
    boards := [ { index := 0, product := 4095, ox := 1000, oy := 0, tabs := [tab, tab, tab] } ] }

/-- A board record of three tabs in given states. -/
def board (st : BoardState) (a b c : TabState) : BoardRec :=
  let t := fun (x : TabState) =>
    ({ state := x, used := 0, interrupted := false, clamped := false, hard := false } : TabRec)
  { index := 0, state := st, xout := false, dest := .none, ranged := false, damage := false, tabs := [t a, t b, t c] }

/-- A job of one board on recipe 1. -/
def job (tag : Nat) (st : JobState) (sh : Option Shuttle) (b : BoardRec) : Job :=
  { tag := tag, recipe := 1, repeatMark := false, orientation := 0, pref := .either, xoutList := none, panelId := none,
    state := st, cause := .none, bound := sh, boards := [b], summary := none }

/-- The recipe is stored. -/
def stored (s : State) : State := s.updStore fun st => { st with recipes := [recipe], free := 2045 }

/-- Jobs are listed, their recipe stored. -/
def listed (js : List Job) (s : State) : State := (stored s).updJobs fun _ => js

/-- A bit at the low end of its ranges. -/
def bit : BitDesc := { d := 80, u := 200, s := 50, nreq := 1, lb := 100 }

/-- The bit is fitted. -/
def fitted (s : State) : State := s.updTool (fitBit bit)

/-- A magazine of ten slots in one zone. -/
def magazine : MagRec := { tag := [0x41#8], slots := 10, pitch := 1000, zoneEnds := [9] }

/-- Bay 0 holds the magazine in a state, with a map. -/
def racked (st : BayState) (slots : List Slot) (s : State) : State :=
  s.updBayRec 0 fun r => { r with state := st, mag := some magazine, slots := some slots, line := true }

/-- A free slot. -/
def freeSlot : Slot := { state := .free, ref := .none }

/-- The fields of a run of one slot kept for board 0 of job 1. -/
def head : RunHead := { job := 1, board := 0, product := 4095, ranged := false, count := 1, cause := none }

/-- A map whose slot 0 is reserved for board 0 of job 1. -/
def reservedMap : List Slot := { state := .reserved, ref := .head head } :: List.replicate 9 freeSlot

/-- Board 0 of job 1. -/
def ref : BoardRef := { job := 1, board := 0 }

/-- A grant, its figures those of the fitted bit's only segment and recipe 1. -/
def grant : Grant :=
  { k := 0, depth := 40, clamped := false, pathLen := 210, feed := 75, time := 28, watch := 306, debit := 1 }

/-- A pass on ring 0 of board 0 of job 1. -/
def pass : PassRec := { job := 1, board := 0, ring := 0, held := false, p := 1, grant := grant, req := 7 }

/-- The job at the cut area, a pass in flight on its board's ring 0; the other tabs are in given states. -/
def cutting (m : Mode) (a b c : TabState) : State :=
  (fitted (listed [job 1 .cutting (some .A) (board .cutting a b c)] (still m))).updSeq fun q =>
    { q with state := .pass, job := 1, board := some 0, order := [0, 1, 2], pass := some pass }

/-- The head serves or carries board 0 of job 1, which is in a state. -/
def onHead (h : HeadState) (st : BoardState) (demand : Bool) : State :=
  (listed [job 1 .cutting (some .A) (board st .pending .severed .severed)] (still .run)).updPick fun p =>
    { p with head := h, served := some ref, carried := some ref, demand := demand }

/-! ## Operands that the well-formedness check refuses -/

/-- The pins of log entry 2. -/
def pins : Pins :=
  { straps := State.resetStraps, panelA := false, panelB := false, magazines := Vector.replicate 4 false, estop := false,
    door := false, upline := false, downline := false }

theorem test_pins_refused :
    (Instr.powerOnReset
      { pins with straps := { pins.straps with bays := .two }, magazines := #v[true, true, true, false] }).wellFormed
      = false ∧ (Instr.powerOnReset { pins with magazines := #v[true, true, true, true] }).wellFormed = true := by decide

theorem test_no_bytes_refused :
    (Instr.frameReceived []).wellFormed = false ∧ (Instr.frameReceived [0#8]).wellFormed = true := by decide

theorem test_slot_refused : (Instr.slotSeated 0 50).wellFormed = false ∧ (Instr.slotSeated 0 49).wellFormed = true := by
  decide

theorem test_reading_refused :
    (Instr.referencingComplete .bay 0#16 [0, 50]).wellFormed = false ∧
      (Instr.referencingComplete .bay 0#16 [0, 49]).wellFormed = true := by decide

/-! ## The machine -/

/-- The release of power-on reset with the pins of log entry 2 gives `State.reset`. -/
theorem test_power_on_is_reset : exec (.powerOnReset pins) State.reset = .next State.reset := by
  show Host.Outcome.next _ = Host.Outcome.next _
  refine congrArg _ ?_
  decide +kernel

/-- No row of the table gives bits, so no word spells a command. -/
theorem test_no_word : decodeTableWord 8 1 = none ∧ State.reset.withFetchWord 8 1 = State.reset := by decide

/-- R201 names the CRC by its parameters; 0x29B1 is the value published for those parameters over the text 123456789. -/
theorem test_frame_check :
    crc16 [0x31#8, 0x32#8, 0x33#8, 0x34#8, 0x35#8, 0x36#8, 0x37#8, 0x38#8, 0x39#8] = 0x29B1#16 := by
  decide +kernel

/-- 05, "Worked case": the segment count, the shares, the path length and the debit. -/
theorem test_worked_case :
    let d : BitDesc := { d := 200, u := 800, s := 200, nreq := 4, lb := 30001 }
    segmentCount d = 4 ∧ segmentShares d = [7500, 7500, 7500, 7501] ∧ pathLength 150 200 25 = 400 ∧
      wearDebit 400 160 = 7 ∧ (effectiveFeed 20 2 4, effectiveFeed 20 3 4) = (20, 15) ∧
      (passTime 400 20, passTime 400 15) = (200, 267) ∧ (watchPeriod 200, watchPeriod 267) = (650, 784) ∧
      nominalDepth 160 30 3 200 2 = 800 := by decide

/-- 05, "Worked sequence: HARD retirement and outright expiry": passes 5 and 6. -/
theorem test_hard_twice :
    let seg := fun (share used : Nat) (c : LeaveCause) => ({ share := share, used := used, cause := c } : Segment)
    let s := (still .run).updTool fun t =>
      { t with state := .fitted, n := 3, q := 20, segs := [seg 20 20 .opened, seg 20 0 .opened, seg 22 0 .opened] }
    let one := toolOutcome .hard s
    let two := toolOutcome .hard (one.updTool fun t => { t with segs := t.segs.modify 1 fun g => { g with used := 4 } })
    one.tool.segs.map (·.cause) = [.hard, .opened, .opened] ∧ (one.tool.k, one.tool.hardCount) = (1, 1) ∧
      two.tool.segs.map (·.cause) = [.hard, .hard, .expired] ∧ (two.tool.k, two.tool.hardCount) = (1, 0) ∧
      two.tool.state = .expired := by decide

/-- 01, "Worked example: one board in four orientations": ring 0 and the walk from ring 2. -/
theorem test_orientations :
    let b : BoardEntry := { index := 0, product := 1, ox := 2000, oy := 1500, tabs := [] }
    let t : TabEntry := { tx := 2500, ty := 0, w := 100, dir := .y }
    let r := { recipe with pw := 20000, ph := 12000 }
    (List.range 4).map (fun o => tabPosition r o b t) = [(4500, 1500), (15500, 1500), (4500, 10500), (15500, 10500)] ∧
      (List.range 4).map (fun o => cutOrder 4 2 (ringAscending o))
        = [[2, 3, 0, 1], [2, 1, 0, 3], [2, 1, 0, 3], [2, 3, 0, 1]] := by decide

/-! ## Witnesses: the machine as a whole -/

theorem witness_StepRunsFrontCommand :
    ({ still .run with pending := [.pause] }).pending = .pause :: [] ∧ (still .run).pending = [] := by decide

/-- A state with every count at its bound: 4 frames and 32 reports queued, 8 jobs listed, 6 bits racked, 255 attempts. -/
def laden : State :=
  let s := fitted (listed ((List.range 8).map fun i => job (i + 1) .ended none (board .placed .severed .severed .severed))
    (still .stopped))
  let s := s.updTool fun t =>
    { t with
      rack := List.replicate 6 bit
      op := some { phase := .halted, entry := bit, attempts := 255, req := none } }
  let s := s.updLink fun l =>
    { l with
      rxQueue := List.replicate 4 (frame 0x41#8 []), linkErrors := 65535
      txQueue := List.replicate 32 (.flagRaised .linkError State.noFlags) }
  { s with pending := [.resume, .frameReceived [0xC3#8, 1#8, 0#8, 0#8, 0#8], .frameSent] }

theorem witness_StepKeepsStore : StoreOk laden ∧ ∃ t, step laden = .next t := ⟨by decide, _, rfl⟩

theorem witness_StepKeepsQueues : QueuesOk laden ∧ laden.link.rxQueue.length = 4 ∧ laden.link.txQueue.length = 32 := by
  decide

theorem witness_StepKeepsJobList : JobListOk laden ∧ laden.jobs.length = 8 := by decide

theorem witness_StepKeepsWear : WearOk laden ∧ WearOk (still .run) := ⟨⟨by decide, rfl⟩, ⟨by decide, rfl⟩⟩

theorem witness_StepKeepsRack : RackOk laden ∧ laden.tool.rack.length = 6 := by
  refine ⟨⟨by decide, ?_⟩, by decide⟩
  intro op h
  cases h
  decide

theorem witness_StepKeepsMode : ModeOk laden ∧ ModeOk (still .run) ∧ ModeOk (still .paused) := by decide

theorem witness_PassStartsOnlyInRun :
    ∃ t, exec (.referencingComplete .bay 3#16 []) { still .homing with mode := { (still .homing).mode with refReq :=
      { spindle := none, pick := none, shuttle := none, bay := some 3#16 } } } = .next t := ⟨_, rfl⟩

theorem witness_FinalBoardStays :
    (laden.boardState 8 0) = some .placed ∧ BoardState.placed.final = true ∧ (laden.job? 8).isSome = true := by decide

/-! ## Witnesses: the message link -/

theorem witness_FrameRoundTrip :
    (still .run).link.rx = .hunting ∧ (255#8 : Byte) ≠ 0#8 ∧ (List.replicate 2048 (0#8 : Byte)).length ≤ 2048 ∧
      (still .run).link.rxQueue.length < 4 ∧ 4 ≤ laden.link.rxQueue.length ∧ laden.link.rx = .hunting ∧
      (0#8 : Byte) ++ 1#8 ≠ crc16 (255#8 :: 255#8 :: enc2 0 ++ []) := by
  refine ⟨by decide, by decide, Nat.le_of_eq List.length_replicate, by decide, by decide, by decide, by decide +kernel⟩

/-- The receiver is in a state. -/
def receiving (r : Receiver) : State := (still .run).updLink fun l => { l with rx := r }

theorem witness_ReceptionAbandoned :
    ((receiving .hunting).link.rx = .hunting ∧
      ((0#8 : Byte) = 0#8 ∨ 2048 < (0#8 : Byte).toNat + 256 * (0#8 : Byte).toNat) ∧
      ((1#8 : Byte) = 0#8 ∨ 2048 < (1#8 : Byte).toNat + 256 * (8#8 : Byte).toNat)) ∧
    (receiving .skipping).link.rx = .skipping ∧ (receiving (.assembling [1#8])).link.rx = .assembling [1#8] ∧
    (receiving .hunting).link.rx ≠ .skipping ∧ ∀ got, (receiving .skipping).link.rx ≠ .assembling got := by
  refine ⟨by decide, by decide, by decide, by decide, fun got => nofun⟩

theorem witness_FrameEndBeginsNext :
    let x : TxFrame := .report (.cellState State.resetReport)
    let r := replyTo (frame 0x4F#8 []) (.ok .empty)
    (State.reset.link.sending = some x ∧ State.reset.link.reset = .none) ∧
    (let s := State.reset.updLink fun l => { l with slot := some r, reset := .replying }
     s.link.sending = some x ∧ s.link.reset = .replying ∧ ∃ k, x = .report k) ∧
    (let s := State.reset.updLink fun l => { l with sending := some (.reply r), reset := .replying }
     s.link.sending = some (.reply r) ∧ s.link.reset = .replying ∧ ∃ k, TxFrame.reply r = .reply k) ∧
    (still .run).link.sending = none :=
  ⟨by decide, ⟨rfl, rfl, _, rfl⟩, ⟨rfl, rfl, _, rfl⟩, rfl⟩

theorem witness_EveryRequestAnswered :
    (Takes (heard 0x41#8 [] (still .run)) (frame 0x41#8 []) [] ∧ (still .run).link.sending = none) ∧
    Takes (heard 0x41#8 [] State.reset) (frame 0x41#8 []) [] ∧
      State.reset.link.sending = some (.report (.cellState State.resetReport)) := by decide

theorem witness_RequestsRefusedUnread :
    (Takes (heard 0x06#8 [] (still .run)) (frame 0x06#8 []) [] ∧ (frame 0x06#8 []).kind ∉ requestKinds) ∧
    (Takes (heard 0x4F#8 [0#8] (still .parked)) (frame 0x4F#8 [0#8]) [] ∧ (frame 0x4F#8 [0#8]).kind ∈ requestKinds ∧
      (still .parked).mode.mode = .parked ∧ (0x4F#8 : Byte) ≠ 0x01#8 ∧ (0x4F#8 : Byte) ≠ 0x43#8) ∧
    (∀ f ∈ [frame 0x20#8 [1#8, 0#8, 8#8], frame 0x38#8 [0#8, 2#8]],
      Takes (heard f.kind f.payload (still .run)) f [] ∧ f.kind ∈ requestKinds ∧ badPresence f) ∧
    (∀ f ∈ [frame 0x20#8 [1#8, 0#8, 7#8, 1#8, 0#8, 0#8, 0#8, 0#8], frame 0x38#8 [0#8], frame 0x10#8 []],
      Takes (heard f.kind f.payload (still .run)) f [] ∧ f.kind ∈ requestKinds ∧ ¬ badPresence f ∧
        f.payload.length ≠ requiredLength f.kind f.payload) ∧
    (let f := frame 0x43#8 [0#8]
     Takes (heard f.kind f.payload (still .parked)) f [] ∧ ¬ badPresence f ∧
       f.payload.length ≠ requiredLength f.kind f.payload) := by decide

theorem witness_RequestsRefusedUnread_free :
    ∀ f ∈ [frame 0x10#8 [], frame 0x11#8 [], frame 0x12#8 [1#8, 0#8]],
      Takes (heard f.kind f.payload (still .run)) f [] ∧ Takes (heard f.kind f.payload (still .parked)) f [] ∧
        f.kind ∈ requestKinds ∧ ¬ badPresence f ∧ f.payload.length ≠ requiredLength f.kind f.payload := by decide

theorem witness_StatusReadAndMarkCleared :
    Asks (heard 0x01#8 [] (still .parked)) (frame 0x01#8 []) [] 0x01#8 [] := by decide

theorem witness_ReportMaskReplaced :
    (Asks (heard 0x04#8 [2#8, 1#8, 7#8] (still .run)) (frame 0x04#8 [2#8, 1#8, 7#8]) [] 0x04#8
        (BitVec.ofNat 8 2 :: [1#8, 7#8]) ∧ ∀ n ∈ [(1#8 : Byte), 7#8], 1 ≤ n.toNat ∧ n.toNat ≤ 7) ∧
    Asks (heard 0x04#8 [2#8, 7#8, 8#8] (still .run)) (frame 0x04#8 [2#8, 7#8, 8#8]) [] 0x04#8
        (BitVec.ofNat 8 2 :: [7#8, 8#8]) ∧ ¬ (1 ≤ (8#8 : Byte).toNat ∧ (8#8 : Byte).toNat ≤ 7) ∧
      (1 ≤ (7#8 : Byte).toNat ∧ (7#8 : Byte).toNat ≤ 7) := by decide

theorem witness_FlagsAcknowledged :
    (Asks (heard 0x05#8 [2#8, 1#8, 12#8] (still .run)) (frame 0x05#8 [2#8, 1#8, 12#8]) [] 0x05#8
        (BitVec.ofNat 8 2 :: [1#8, 12#8]) ∧ ∀ n ∈ [(1#8 : Byte), 12#8], 1 ≤ n.toNat ∧ n.toNat ≤ 12) ∧
    Asks (heard 0x05#8 [1#8, 0#8] (still .run)) (frame 0x05#8 [1#8, 0#8]) [] 0x05#8 (BitVec.ofNat 8 1 :: [0#8]) ∧
      ¬ (1 ≤ (0#8 : Byte).toNat ∧ (0#8 : Byte).toNat ≤ 12) := by decide

/-! ## Witnesses: the resets -/

theorem witness_CellResetInTwoSteps :
    Asks (heard 0x4E#8 [] (still .run)) (frame 0x4E#8 []) [] 0x4E#8 [] ∧
    (Asks (heard 0x4F#8 [] (still .run)) (frame 0x4F#8 []) [] 0x4F#8 [] ∧ (still .run).link.resetEnable = false) ∧
    (let s := (heard 0x4F#8 [] (still .run)).updLink fun l => { l with resetEnable := true }
     Asks s (frame 0x4F#8 []) [] 0x4F#8 [] ∧ s.link.resetEnable = true ∧ s.mode.mode ≠ .parked) ∧
    (let r := replyTo (frame 0x4F#8 []) (.ok .empty)
     let s := (still .run).updLink fun l => { l with sending := some (.reply r), reset := .replying }
     s.link.sending = some (.reply r) ∧ s.link.reset = .replying) := by decide

theorem witness_CellResetLeaves :
    let due := fun (s : State) => s.updLink fun l => { l with reset := .due }
    ((due laden).link.reset = .due ∧ laden.tool.state ≠ .changing ∧ laden.link.reset ≠ .due ∧ LinesOk laden.mode) ∧
    (let s := (due laden).updTool fun t => { t with state := .changing }
     s.link.reset = .due ∧ s.tool.state = .changing) ∧
    (let s := (racked .draining reservedMap laden).updBayRec 1 fun r => { r with state := .released, latch := .held }
     s.mode.options.autoSwap = false ∧ (∀ b : Bay, s.bayFitted b = true) ∧
       ((s.bayRec 0).state = .draining ∧ (s.bayRec 0).latch = .none) ∧ (s.bayRec 1).state = .released ∧
       ((s.bayRec 2).state = .empty ∧ (s.bayRec 2).latch = .none)) ∧
    (let full := (reservedMap.take 1).map resetSlot
     let s := (racked .draining (reservedMap.take 1) laden).updMode fun m =>
       { m with options := { m.options with autoSwap := true } }
     s.mode.options.autoSwap = true ∧ (s.bayRec 0).slots = some (reservedMap.take 1) ∧ ∀ x ∈ full, x.state ≠ .free) := by
  decide

/-! ## Witnesses: the Recipe Store and the Job List -/

/-- A recipe of 160 tabs, or of 128. -/
def filler (n tabs : Nat) : Recipe :=
  { recipe with
    number := n
    boards := (List.range 16).map fun i =>
      { index := i, product := 1, ox := 0, oy := 0, tabs := List.replicate tabs tab } }

/-- The pool is full: twelve recipes of 160 tabs and one of 128. -/
def poolFull : State :=
  (still .run).updStore fun st =>
    { st with recipes := (List.range 12).map (fun i => filler (i + 2) 10) ++ [filler 14 8], free := 0 }

theorem witness_RecipeLoadedWhole :
    recipe.inRange ∧
    (let s := heard 0x10#8 (encRecipe recipe) (listed [job 1 .announced none (board .waiting .pending .pending .pending)]
      (still .run))
     Asks s (frame 0x10#8 (encRecipe recipe)) [] 0x10#8 (encRecipe recipe) ∧ StoreOk s ∧ s.recipeInUse 1 = true) ∧
    (let s := heard 0x10#8 (encRecipe recipe) (stored (still .run))
     StoreOk s ∧ s.recipeInUse 1 = false ∧ recipe.tabs ≤ s.store.free + s.store.held 1) := by decide

theorem witness_RecipeLoadedWhole_full :
    StoreOk poolFull ∧ poolFull.recipeInUse 1 = false ∧ poolFull.store.free + poolFull.store.held 1 < recipe.tabs ∧
      poolFull.store.held 2 = 160 := by decide

theorem witness_RecipeDropped :
    let s := fun (n : Byte) (m : Mode) => heard 0x11#8 [n] (listed [job 1 .ended none
      (board .placed .severed .severed .severed)] (still m))
    (Asks (s 1#8 .parked) (frame 0x11#8 [1#8]) [] 0x11#8 [1#8] ∧ (s 1#8 .parked).mode.mode = .parked) ∧
    (Asks (s 33#8 .run) (frame 0x11#8 [33#8]) [] 0x11#8 [33#8] ∧ ¬ (1 ≤ (33#8 : Byte).toNat ∧ (33#8 : Byte).toNat ≤ 32)) ∧
    (Asks (s 32#8 .run) (frame 0x11#8 [32#8]) [] 0x11#8 [32#8] ∧ ∀ r ∈ (s 32#8 .run).store.recipes, r.number ≠ 32) ∧
    (Asks (s 1#8 .run) (frame 0x11#8 [1#8]) [] 0x11#8 [1#8] ∧ (s 1#8 .run).store.find 1 = some recipe ∧
      (s 1#8 .run).liveJobs 1 = 0) ∧
    (listed [job 1 .loading none (board .waiting .pending .pending .pending)] (still .run)).liveJobs 1 ≠ 0 := by decide

theorem witness_RecipesRead :
    let s := fun (n : Byte) (m : Mode) => heard 0x12#8 [n] (stored (still m))
    (Asks (s 0#8 .parked) (frame 0x12#8 [0#8]) [] 0x12#8 [0#8] ∧ (s 0#8 .parked).mode.mode = .parked) ∧
    (Asks (s 1#8 .run) (frame 0x12#8 [1#8]) [] 0x12#8 [1#8] ∧ (s 1#8 .run).store.find 1 = some recipe) ∧
    (Asks (s 32#8 .run) (frame 0x12#8 [32#8]) [] 0x12#8 [32#8] ∧ ∀ r ∈ (s 32#8 .run).store.recipes, r.number ≠ 32) ∧
    (Asks (s 33#8 .run) (frame 0x12#8 [33#8]) [] 0x12#8 [33#8] ∧ 32 < (33#8 : Byte).toNat) ∧
    (Asks (s 0#8 .run) (frame 0x12#8 [0#8]) [] 0x12#8 [0#8] ∧ StoreOk (s 0#8 .run)) := by decide

/-- An announcement with an X-out and a panel id, on a recipe named or omitted. -/
def announcement (tag : Nat) (number : Option Nat) : RawAnnounce :=
  { tag := tag, recipe := number, repeatMark := 1, orientation := 3, pref := 2, xouts := some [0]
    panelId := some (List.replicate 24 0x41#8) }

/-- The announcement waits in a machine that lists jobs, its recipe stored. -/
def announcing (a : RawAnnounce) (js : List Job) : State := heard 0x20#8 (encAnnounce a) (listed js (still .run))

theorem witness_PanelAnnounced_refused :
    let a := announcement 65535 (some 1)
    (∀ x ∈ [{ a with tag := 0 }, { a with recipe := some 33 }, { a with repeatMark := 2 }, { a with orientation := 4 },
        { a with pref := 3 }, { a with xouts := some (List.replicate 25 0) }, { a with panelId := some [] }, a],
      Asks (announcing x []) (frame 0x20#8 (encAnnounce x)) [] 0x20#8 (encAnnounce x) ∧ x.tag ≤ 65535 ∧
        x.repeatMark ≤ 255 ∧ x.orientation ≤ 255 ∧ x.pref ≤ 255) ∧
    (∃ j ∈ (announcing a [job 65535 .seated none (board .waiting .pending .pending .pending)]).jobs, j.tag = a.tag) ∧
    (∀ r ∈ (announcing { a with recipe := some 2 } []).store.recipes, r.number ≠ 2) ∧
    (announcing { a with recipe := none } []).store.carried = 0 ∧ recipe.boards.length ≤ [1][0] ∧
    (∀ j ∈ List.replicate 8 (job 1 .loading none (board .waiting .pending .pending .pending)), j.live = true) := by decide

theorem witness_PanelAnnounced :
    let a := announcement 65535 (some 1)
    let o := announcement 65535 none
    let old := job 1 .ended (some .A) (board .placed .severed .severed .severed)
    let others := (List.range 7).map fun i => job (i + 2) .announced none (board .waiting .pending .pending .pending)
    let s := (announcing a (old :: others)).updShut fun c => { c with seated := [.A, .B] }
    let u := (announcing o others).updStore fun st => { st with carried := 1 }
    (a.fitsBytes ∧ (∀ j ∈ s.jobs, j.tag ≠ 65535) ∧ s.store.find 1 = some recipe ∧ [0].Nodup ∧ Evicts s others [old] ∧
      Preference.b.allows .A = false ∧ Preference.b.allows .B = true ∧ s.shut.seated = [.A] ++ .B :: []) ∧
    (o.fitsBytes ∧ u.store.carried = 1 ∧ u.store.find 1 = some recipe ∧ Evicts u others [] ∧ u.shut.seated = []) := by
  intro a o old others s u
  refine ⟨⟨?_, by decide, by decide, by decide, .inr ⟨by decide, [], old, others, by decide, by decide, by decide, rfl, rfl⟩,
    rfl, rfl, rfl⟩, ?_, rfl, by decide, .inl ⟨by decide, rfl, rfl⟩, rfl⟩ <;>
    exact ⟨by decide, fun n h => by cases h <;> decide, by decide, by decide, by decide,
      fun l h => by cases h; decide, fun t h => by cases h; decide⟩

theorem witness_PanelWithdrawn :
    let j := fun (st : JobState) => job 256 st none (board .waiting .pending .pending .pending)
    let k := job 1 .announced none (board .waiting .pending .pending .pending)
    let s := fun (st : JobState) => heard 0x21#8 [0#8, 1#8] (listed [k, j st] (still .run))
    (Asks (s .announced) (frame 0x21#8 [0#8, 1#8]) [] 0x21#8 [0#8, 1#8] ∧ Lists (s .announced) [k] (j .announced) [] ∧
      (j .announced).tag = (0#8 : Byte).toNat + 256 * (1#8 : Byte).toNat ∧ (j .announced).cause = .none) ∧
    (∀ x ∈ (heard 0x21#8 [0#8, 1#8] (listed [k] (still .run))).jobs, x.tag ≠ 256) ∧
    Lists (s .loading) [k] (j .loading) [] ∧ Lists (s .ended) [k] (j .ended) [] ∧
    (let w := { j .loading with cause := .host }
     Lists (listed [k, w] (still .run)) [k] w [] ∧ w.cause ≠ .none) ∧
    (let x := { j .seated with bound := some .B }
     let u := listed [k, x] (still .run)
     Lists u [k] x [] ∧ (∀ b ∈ x.boards, b.state = .waiting) ∧ (x.boards.map (·.index)).Nodup ∧ u.seq.job ≠ 256 ∧
       u.pick.queue = [] ∧ u.pick.served = none) := by decide

theorem witness_PanelWithdrawn_cutting :
    let x := job 1 .cutting (some .A) (board .cutting .pending .pending .pending)
    (let s := heard 0x21#8 [1#8, 0#8] (cutting .run .pending .pending .pending)
     Asks s (frame 0x21#8 [1#8, 0#8]) [] 0x21#8 [1#8, 0#8] ∧ Lists s [] x [] ∧ s.seq.pass ≠ none ∧ s.seq.state = .pass) ∧
    (let s := heard 0x21#8 [1#8, 0#8] (onHead .holding .held true)
     let y := job 1 .cutting (some .A) (board .held .pending .severed .severed)
     Lists s [] y [] ∧ s.seq.pass = none ∧ (y.boards.map (·.index)).Nodup ∧ s.pick.served = some ref ∧
       s.pick.head = .holding ∧ ∀ b ∈ y.boards, b.state ≠ .singled ∧ b.state ≠ .placing) ∧
    (let s := (heard 0x21#8 [1#8, 0#8] (onHead .transfer .singled true)).updSeq fun q =>
        { q with job := 1, state := .ready }
     let y := job 1 .cutting (some .A) (board .singled .severed .severed .severed)
     (listed [y] s).seq.state = .ready ∧ Lists (listed [y] s) [] y [] ∧ ∃ b ∈ y.boards, b.state = .singled) := by decide

theorem witness_JobReleased :
    let j := fun (st : JobState) => job 1 st (some .A) (board .waiting .pending .pending .pending)
    let s := fun (m : Mode) (js : List Job) => heard 0x23#8 [1#8, 0#8] (listed js (still m))
    Asks (s .parked []) (frame 0x23#8 [1#8, 0#8]) [] 0x23#8 [1#8, 0#8] ∧
    (Asks (s .run []) (frame 0x23#8 [1#8, 0#8]) [] 0x23#8 [1#8, 0#8] ∧
      ∀ j ∈ (s .run []).jobs, j.tag ≠ (1#8 : Byte).toNat + 256 * (0#8 : Byte).toNat) ∧
    (Asks (s .run [j .cutting]) (frame 0x23#8 [1#8, 0#8]) [] 0x23#8 [1#8, 0#8] ∧ Lists (s .run [j .cutting]) [] (j .cutting) [] ∧
      (j .cutting).state ≠ .ended ∧ (j .cutting).state ≠ .withdrawn) ∧
    Lists (s .run [j .withdrawn]) [] (j .withdrawn) [] := by decide

theorem witness_JobsRead :
    (let j := job 1 .ended none (board .placed .severed .severed .severed)
     let s := heard 0x22#8 [1#8, 0#8] (listed [j] (still .run))
     Asks s (frame 0x22#8 [1#8, 0#8]) [] 0x22#8 [1#8, 0#8] ∧ Lists s [] j [] ∧ s.store.find j.recipe = some recipe ∧
       ∀ b ∈ j.boards, (recipe.boards[b.index]?).isSome) ∧
    Asks (heard 0x22#8 [0#8, 0#8] (still .run)) (frame 0x22#8 [0#8, 0#8]) [] 0x22#8 [0#8, 0#8] := by decide

/-! ## Witnesses: the mode requests -/

theorem witness_ConfigurationReplaced :
    let o : Options := { enables := #v[true, false, true, true], tray := true, changer := false, autoSwap := false,
                         upUse := .input, downUse := .unused }
    let p := encOptions o true
    let s := heard 0x02#8 p (still .homing)
    (Asks s (frame 0x02#8 p) [] 0x02#8 p ∧ s.mode.locked = false ∧ s.mode.upLevel = false ∧ s.mode.downLevel = false ∧
      s.mode.pause.line = false ∧ s.tool.state ≠ .expired) ∧
    (s.updMode fun m => { m with locked := true }).mode.locked = true := by decide

theorem witness_ConfigurationReplaced_fits :
    let o : Options := { enables := #v[true, false, true, true], tray := true, changer := false, autoSwap := false,
                         upUse := .input, downUse := .unused }
    o.fits State.resetStraps ∧ ¬ o.fits { State.resetStraps with bays := .two } ∧
      ¬ o.fits { State.resetStraps with upline := .output } := by
  refine ⟨⟨by decide, by decide, by decide, by decide, by decide⟩, ?_, ?_⟩
  · exact fun h => absurd (h.1 rfl).1 (by decide)
  · exact fun h => absurd h.2.2.2.1 (by decide)

theorem witness_CellTagSetOnce :
    let tag : List Byte := List.replicate 16 0x7E#8
    (Asks (heard 0x03#8 (encText tag) (still .run)) (frame 0x03#8 (encText tag)) [] 0x03#8 (encText tag) ∧
      (still .run).mode.tag = none) ∧
    (let long : List Byte := List.replicate 17 0x20#8
     Asks (heard 0x03#8 (encText long) (still .run)) (frame 0x03#8 (encText long)) [] 0x03#8 (encText long) ∧
       ¬ (1 ≤ long.length ∧ long.length ≤ 16)) ∧
    (let s := heard 0x03#8 (encText []) ((still .run).updMode fun m => { m with tag := some tag })
     Asks s (frame 0x03#8 (encText [])) [] 0x03#8 (encText []) ∧ s.mode.tag ≠ none) := by decide

/-- Nothing is held back in a homed machine. -/
theorem still_nothingHeld (m : Mode) : NothingHeld (still m) := ⟨fun _ => nofun, by cases m <;> decide⟩

theorem witness_PauseTaken :
    let s := fun (m : Mode) => heard 0x40#8 [] (still m)
    (Asks (s .paused) (frame 0x40#8 []) [] 0x40#8 [] ∧ (s .paused).mode.pause.host = true) ∧
    (Asks (s .stopped) (frame 0x40#8 []) [] 0x40#8 [] ∧ (s .stopped).mode.pause.host = false ∧
      (s .stopped).mode.mode ≠ .run) ∧
    Asks (s .run) (frame 0x40#8 []) [] 0x40#8 [] ∧ (s .run).mode.pause.host = false ∧ NothingHeld (s .run) :=
  ⟨by decide, by decide, by decide, by decide, still_nothingHeld .run⟩

theorem witness_ResumeTaken :
    let s := fun (m : Mode) => heard 0x41#8 [] (still m)
    (Asks (s .stopped) (frame 0x41#8 []) [] 0x41#8 [] ∧ (s .stopped).mode.estopActive = false ∧
      (s .stopped).mode.doorActive = false) ∧
    ((s .stopped).updMode fun m => { m with doorActive := true }).mode.doorActive = true ∧
    (Asks (s .run) (frame 0x41#8 []) [] 0x41#8 [] ∧ (s .run).mode.pause.host = false) ∧
    (let u := (s .paused).updMode fun m => { m with pause := { m.pause with line := true } }
     Asks u (frame 0x41#8 []) [] 0x41#8 [] ∧ u.mode.mode = .paused ∧ u.mode.pause.line = true ∧
       u.mode.pause.host = true) ∧
    (Asks (s .paused) (frame 0x41#8 []) [] 0x41#8 [] ∧ (s .paused).mode.pause.host = true ∧
      (s .paused).mode.pause.line = false) := by decide

theorem witness_ResumeTaken_parking :
    let s := fun (line : Bool) => (heard 0x41#8 [] (still .parking)).updMode fun m => { m with pause := ⟨true, line⟩ }
    (∀ line ∈ [false, true], Asks (s line) (frame 0x41#8 []) [] 0x41#8 [] ∧ (s line).mode.mode = .parking ∧
      (s line).mode.pause.host = true ∧ (s line).mode.pause.line = line) ∧
    groups.filter (s false).parkDue = groups ∧
      ((s false).updTool fun k => { k with op := some ⟨.moving, bit, 1, some 0#16⟩ }).parkDue .bay = false := by decide

theorem witness_ParkAndWake :
    let s := fun (m : Mode) => heard 0x42#8 [] (still m)
    (Asks (s .homing) (frame 0x42#8 []) [] 0x42#8 [] ∧ (s .homing).mode.mode ≠ .run ∧ (s .homing).mode.mode ≠ .paused) ∧
    (Asks (s .paused) (frame 0x42#8 []) [] 0x42#8 [] ∧ (s .paused).shut.holder = none ∧ (s .paused).pick.head = .idle ∧
      (s .paused).mode.pause.any = true) ∧
    (Asks (s .run) (frame 0x42#8 []) [] 0x42#8 [] ∧ (s .run).mode.pause.any = false ∧
      ∀ g ∈ groups, groupBusy (s .run) g = false) ∧
    ((s .run).updShut fun c => { c with holder := some .B }).shut.holder ≠ none ∧
    Asks (heard 0x43#8 [] (still .run)) (frame 0x43#8 []) [] 0x43#8 [] ∧
    Asks (heard 0x43#8 [] (still .parked)) (frame 0x43#8 []) [] 0x43#8 [] := by decide

/-! ## Witnesses: the claim table, the tray, the bit and the magazines -/

theorem witness_ClaimsSetAndRead :
    let e : ClaimEntry := { enabled := true, low := 1, high := 4095, bay := 3, zone := 3, exactOnly := false }
    let p := enc1 7 ++ encClaim e
    let q := enc1 7 ++ encClaim { e with low := 2, high := 1 }
    (Asks (heard 0x18#8 p (still .run)) (frame 0x18#8 p) [] 0x18#8 p ∧ (still .run).route.wait = none ∧ 1 ≤ e.low ∧
      e.high ≤ 4095) ∧
    Asks (heard 0x18#8 q (still .run)) (frame 0x18#8 q) [] 0x18#8 q ∧
    Asks (heard 0x19#8 [] (still .run)) (frame 0x19#8 []) [] 0x19#8 [] ∧
    Asks (heard 0x19#8 [] (still .parked)) (frame 0x19#8 []) [] 0x19#8 [] := by decide

theorem witness_TrayEmptied :
    let s := heard 0x3B#8 [] (onHead .transfer .singled true)
    (Asks s (frame 0x3B#8 []) [] 0x3B#8 [] ∧ s.mode.options.tray = true ∧ s.route.trayInProgress = false ∧
      s.route.wait = none) ∧
    (s.updRoute fun r => { r with trayInProgress := true }).route.trayInProgress = true ∧
    (let w : WaitRec := { ref := ref, product := 4095, outcome := .trayFull, trayBound := true }
     let u := (s.updRoute fun r => { r with wait := some w, trayCount := 40 }).updBoard 1 0 fun b => { b with damage := true }
     Asks u (frame 0x3B#8 []) [] 0x3B#8 [] ∧ u.route.wait = some w ∧ u.pick.carried = some w.ref ∧
       (u.board? 1 0).map (·.damage) = some true) := by decide

theorem witness_BitDeclared :
    let s := fun (m : Mode) => heard 0x30#8 (encBit bit) (still m)
    let f := frame 0x30#8 (encBit bit)
    bit.inRange ∧ (Asks (s .run) f [] 0x30#8 (encBit bit) ∧ (s .run).seq.pass = none ∧ (s .run).seq.state ≠ .toolWait) ∧
    (Asks (fitted (s .run)) f [] 0x30#8 (encBit bit) ∧ (fitted (s .run)).tool.state = .fitted) ∧
    (Asks (fitted (s .paused)) f [] 0x30#8 (encBit bit) ∧ (fitted (s .paused)).mode.mode = .paused) ∧
    Asks (heard 0x32#8 [] (still .run)) (frame 0x32#8 []) [] 0x32#8 [] := by decide

/-- The sequencer waits for a bit, the pass on ring 0 of board 0 of job 1 fixed; the head holds the board if it is HELD. -/
def awaitingBit (m : Mode) (st : BoardState) (s : State) : State :=
  ((listed [job 1 .cutting (some .A) (board st .pending .severed .severed)]
    { s with mode := (still m).mode }).updSeq fun q =>
    { q with state := .toolWait, job := 1, fixed := some { board := 0, ring := 0, reason := .tool } }).updPick fun p =>
    { p with head := .holding, served := some ref }

/-- The fixed pass of `awaitingBit`. -/
def fixedTab : FixedPass := { board := 0, ring := 0, reason := .tool }

theorem witness_BitDeclared_toolWait :
    let s := fun (m : Mode) (st : BoardState) => awaitingBit m st (heard 0x30#8 (encBit bit) (still m))
    (∀ m ∈ [Mode.run, .paused], Asks (s m .cutting) (frame 0x30#8 (encBit bit)) [] 0x30#8 (encBit bit) ∧
      (s m .cutting).seq.pass = none ∧ (s m .cutting).tool.state = .none ∧ (s m .cutting).seq.state = .toolWait ∧
      (s m .cutting).seq.job ≠ 0 ∧ (s m .cutting).withdrawing 1 = false ∧ (s m .cutting).mode.mode = m) ∧
    AwaitsBit (s .run .cutting) fixedTab false newTab recipe tab ∧ AwaitsBit (s .run .held) fixedTab true newTab recipe tab ∧
      (firstGrant bit 1 recipe tab.w 1).debit ≤ [100].headD 0 := by decide

theorem witness_BitRacked :
    let top : BitDesc := { d := 300, u := 1500, s := 300, nreq := 8, lb := 60000 }
    let s := fun (m : Mode) (b : BitState) (n : Nat) =>
      (heard 0x31#8 (encBit top) (still m)).updTool fun t => { t with state := b, rack := List.replicate n bit }
    let f := frame 0x31#8 (encBit top)
    top.inRange ∧ Asks (s .run .none 6) f [] 0x31#8 (encBit top) ∧ Asks (s .run .none 5) f [] 0x31#8 (encBit top) ∧
    (Asks (s .paused .expired 0) f [] 0x31#8 (encBit top) ∧ (s .paused .expired 0).mode.options.changer = true ∧
      ((s .paused .expired 0).tool.rack ++ [top]).head? = some top) ∧
    (Asks (s .run .expired 5) f [] 0x31#8 (encBit top) ∧ ((s .run .expired 5).tool.rack ++ [top]).head? = some bit) := by
  decide

theorem witness_MagazineAccepted :
    let m : MagRec := { tag := List.replicate 16 0x42#8, slots := 50, pitch := 200, zoneEnds := [0, 1, 2, 49] }
    let p := enc1 0 ++ [0x01#8] ++ encText m.tag ++ enc1 m.slots ++ enc2 m.pitch ++ encList enc1 m.zoneEnds ++
      encList enc1 [49, 0]
    let s := fun (st : BayState) => (heard 0x38#8 p (still .run)).updBayRec 0 fun r => { r with state := st }
    (Asks (s .present) (frame 0x38#8 p) [] 0x38#8 p ∧ m.zoneEnds.Pairwise (· < ·) ∧
      m.zoneEnds.getLast? = some (m.slots - 1) ∧ [49, 0].Nodup ∧ (s .present).bayEnabled 0 = true ∧
      ((s .present).bayRec 0).state = .present ∧ (s .present).route.wait = none) ∧
    ((s .empty).bayRec 0).state ≠ .present ∧
    ((s .empty).updMode fun m => { m with options := { m.options with enables := #v[false, true, true, true] } }).bayEnabled 0
      = false ∧
    (((s .present).updBayRec 3 fun r => { r with state := .released, mag := some m }).bayRec 3).mag = some m ∧
    (let q := enc1 0 ++ encBool false ++ encText m.tag ++ enc1 m.slots ++ enc2 m.pitch ++ encList enc1 m.zoneEnds ++ []
     let u := heard 0x38#8 q (s .present)
     Asks u (frame 0x38#8 q) [] 0x38#8 q ∧ (u.bayRec 0).state = .present) ∧
    (let w : WaitRec := { ref := ref, product := 4095, outcome := .zoneFull, trayBound := false }
     ((s .present).updRoute fun r => { r with wait := some w }).route.wait = some w) := by decide

theorem witness_MagazineAccepted_full :
    let p := enc1 0 ++ encBool true ++ encText magazine.tag ++ enc1 magazine.slots ++ enc2 magazine.pitch ++
      encList enc1 magazine.zoneEnds ++ encList enc1 (List.range 10)
    let s := ((heard 0x38#8 p (still .homing)).updBayRec 0 fun r => { r with state := .present }).updMode fun m =>
      { m with options := { m.options with autoSwap := true } }
    Asks s (frame 0x38#8 p) [] 0x38#8 p ∧ s.mode.options.autoSwap = true ∧ (List.range 10).Nodup ∧
      (∀ i, i < magazine.slots → i ∈ List.range 10) ∧ s.mode.mode ≠ .run ∧ s.mode.mode ≠ .paused := by decide

/-- ACCEPT MAGAZINE for bay 0, every slot preloaded or none, while board 0 of job 1 waits on the head; claim 0 names the bay
for every code, and directly for code 4095 if `low` is 4095. -/
def retrying (low : Nat) (full damage : Bool) : State :=
  let p := enc1 0 ++ encBool true ++ encText magazine.tag ++ enc1 magazine.slots ++ enc2 magazine.pitch ++
    encList enc1 magazine.zoneEnds ++ encList enc1 (if full then List.range 10 else [])
  let b := { board .singled .severed .severed .severed with damage := damage }
  let s := (heard 0x38#8 p (listed [job 1 .cutting (some .A) b] (still .run))).updBayRec 0 fun r => { r with state := .present }
  let s := s.updPick fun k => { k with carried := some ref, head := .transfer, demand := true }
  s.updRoute fun r =>
    { r with
      claims := r.claims.set 0 ⟨true, low, 4095, 0, 0, false⟩
      wait := some { ref := ref, product := 4095, outcome := .unclaimed, trayBound := damage } }

theorem witness_MagazineAccepted_retry :
    let u := fun (full : Bool) (s : State) => s.updBayRec 0 fun r =>
      { r with
        state := .online, mag := some magazine
        slots := some ((List.range 10).map fun i =>
          { state := if full && i < 10 then .preloaded else .free, ref := .none }) }
    (∀ low ∈ [4095, 1], ∀ full ∈ [false, true],
      let s := retrying low full false
      s.link.rxQueue.length = 1 ∧ s.bayEnabled 0 = true ∧ (s.bayRec 0).state = .present ∧
        s.route.wait.map (·.ref) = some ref ∧ s.pick.carried = some ref ∧ (s.board? 1 0).isSome = true ∧
        s.jobRecipe? 1 = some recipe ∧ s.product 1 0 = 4095 ∧ s.route.trayPolicy = false ∧
        (tryEntry recipe.hc (u full s) s.route.claims[0]).toOption = (if full then none else some ⟨0, 0, 3⟩) ∧
        lacksRun recipe.hc (u full s) s.route.claims[0] = full) ∧
    ((retrying 1 true true).mode.options.tray = true ∧ (retrying 1 true true).route.trayCount < 40 ∧
      ((retrying 1 true true).board? 1 0).map (·.damage) = some true) := by decide

theorem witness_BaySwappedAndRead :
    let s := fun (n : Byte) (m : Mode) => heard 0x39#8 [n] (still m)
    let f := fun (n : Byte) => frame 0x39#8 [n]
    Asks (s 4#8 .run) (f 4#8) [] 0x39#8 [4#8] ∧
    (let u := (s 2#8 .run).updMode fun m => { m with straps := { m.straps with bays := .two } }
     Asks u (f 2#8) [] 0x39#8 [2#8] ∧ u.bayFitted 2 = false) ∧
    (Asks (s 0#8 .run) (f 0#8) [] 0x39#8 [0#8] ∧ (s 0#8 .run).bayFitted 0 = true ∧ ((s 0#8 .run).bayRec 0).state = .empty) ∧
    ((racked .draining [] (s 0#8 .run)).bayRec 0).state = .draining ∧
    (let u := racked .online reservedMap (s 0#8 .run)
     Asks u (f 0#8) [] 0x39#8 [0#8] ∧ (u.bayRec 0).state = .online ∧ anyReserved (u.bayRec 0).map = true) ∧
    (let u := fun (m : Mode) => racked .online (List.replicate 10 freeSlot) (s 0#8 m)
     anyReserved ((u .paused).bayRec 0).map = false ∧ (u .paused).mode.mode = .paused ∧ (u .homing).mode.mode ≠ .run) ∧
    Asks (heard 0x3A#8 [3#8] (still .run)) (frame 0x3A#8 [3#8]) [] 0x3A#8 [3#8] ∧ (still .run).bayFitted 3 = true ∧
      ((still .run).bayRec 3).mag = none ∧ ((racked .online reservedMap (still .run)).bayRec 0).mag = some magazine := by
  decide

/-! ## Witnesses: the shuttles and the cut -/

/-- Shuttle A stands in a state, bound to a job. -/
def tabled (st : ShuttleState) (bound : Nat) (s : State) : State :=
  s.updShuttle .A fun r => { r with state := st, bound := bound, panelLine := true }

theorem witness_PanelSeen :
    (let fresh := job 1 .announced none (board .waiting .pending .pending .pending)
     let other := { fresh with tag := 2, pref := .b }
     let s := listed [other, fresh] (still .run)
     (s.shuttle .A).state = .vacant ∧ Lists s [other] fresh [] ∧ fresh.pref.allows .A = true ∧
       (∀ k ∈ [other], ¬ (k.state = .announced ∧ k.pref.allows .A = true)) ∧
       (∀ j ∈ (still .run).jobs, ¬ (j.state = .announced ∧ j.pref.allows .A = true))) ∧
    ((tabled .unbound 0 (still .run)).shuttle .A).state = .unbound ∧
    ((tabled .atWindow 1 (still .run)).shuttle .A).state = .atWindow ∧
    ((tabled .atCut 1 (still .run)).shuttle .A).state = .atCut ∧
    (let j := job 1 .waitingArea (some .A) (board .waiting .pending .pending .pending)
     let s := tabled .waitingArea 1 (listed [j] (still .run))
     Lists s [] j [] ∧ (s.shuttle .A).state = .waitingArea ∧ (s.shuttle .A).bound = j.tag ∧
       ∀ b ∈ j.boards, b.state = .waiting) := by decide

theorem witness_AreaGranted :
    let j := job 1 .seated (some .A) (board .waiting .pending .pending .pending)
    let s := tabled .seated 1 (listed [j] (still .run))
    ((s.shuttle .A).state = .seated ∧ s.mode.mode = .run ∧ Lists s [] j [] ∧ j.tag = (s.shuttle .A).bound ∧
      s.shut.holder = none ∧ s.shut.waitA = false ∧ s.shut.waitB = false) ∧
    (s.updShut fun c => { c with holder := some .B }).shut.holder ≠ none ∧
    ((still .run).shuttle .A).state ≠ .seated ∧ (tabled .seated 1 (still .paused)).mode.mode ≠ .run := by decide

theorem witness_ShuttleArrives :
    let j := job 1 .loading (some .A) (board .waiting .pending .pending .pending)
    let s := fun (st : ShuttleState) (j : Job) =>
      (tabled st 1 (listed [j] (still .paused))).updShuttle .A fun r => { r with moveReq := some 65535#16 }
    ((s .movingIn j).shuttle .A).state = .movingIn ∧ ((s .movingIn j).shuttle .A).moveReq = some 65535#16 ∧
    Lists (s .movingIn j) [] j [] ∧ (s .movingIn j).seq.pass = none ∧ (s .movingIn j).mode.mode ≠ .run ∧
    (let w := { j with cause := .host }
     Lists (s .movingIn w) [] w [] ∧ ∀ b ∈ w.boards, b.state = .waiting) ∧
    ((s .movingOut j).shuttle .A).state = .movingOut ∧ ((s .movingOut j).shuttle .A).panelLine = true ∧
    (((s .movingOut j).updShuttle .A fun r => { r with panelLine := false }).shuttle .A).panelLine = false ∧
    ((s .movingIn j).shuttle .A).moveReq ≠ some 0#16 := by decide

theorem witness_CutOrderWalksRing :
    ([(0, 0), (1000, 35000)] : List (Nat × Nat)) ≠ [] ∧ startTab 1000 35000 [(0, 0), (1000, 35000)] = 1 ∧
      (0 : Nat) < 1 := by decide

theorem witness_PassFigures :
    let s := fitted (still .run)
    let two : BitDesc := { bit with s := 100, nreq := 2 }
    let last := (s.updTool (fitBit two)).updTool fun t => { t with segs := t.segs.modify 0 fun g => { g with used := 50 } }
    let spent := s.updTool fun t => { t with segs := t.segs.map fun g => { g with used := 100 } }
    (s.tool.state = .fitted ∧ s.tool.desc = some bit ∧
      s.tool.segs[s.tool.k]? = some { share := 100, used := 0, cause := .opened } ∧
      (∀ d ∈ [bit, two, { bit with d := 300 }], d.inRange) ∧
      ∀ r ∈ [recipe, { recipe with t := 320, f := 1, o := 0 }], r.inRange) ∧
    (last.tool.segs.map (fun g => g.share - g.used) = [0, 50] ∧ last.tool.k = 0 ∧ last.tool.n = 2) ∧
    (spent.tool.segs.map (fun g => g.share - g.used) = [0] ∧ spent.tool.rack = [] ∧ spent.mode.options.changer = true ∧
      (spent.updTool fun t => { t with rack := [bit] }).tool.rack = bit :: []) := by decide

theorem witness_NextPassRequested :
    let s := cutting .run .pending .pending .pending
    let b := board .cutting .pending .pending .pending
    s.seq.pass = some pass ∧ s.seq.state = .pass ∧ s.mode.mode = .run ∧ s.seq.job = 1 ∧ s.seq.board = some 0 ∧
      s.seq.holdList = [] ∧ s.seq.fixed = none ∧ nextTab 1 0 s = some 0 ∧ s.job? 1 = some (job 1 .cutting (some .A) b) ∧
      s.board? 1 0 = some b ∧ s.tab? 1 0 0 = b.tabs[0]? ∧ s.jobRecipe? 1 = some recipe ∧
      s.boardEntry? 1 0 = recipe.boards[0]? ∧ 0 + 1 < recipe.passLimit ∧ s.tool.desc = some bit ∧
      s.tool.segs[s.tool.k]? = some { share := 100, used := 0, cause := .opened } ∧
      ceilDiv ((30 + 80 + 2 * 50) * 40) 10000 ≤ 100 - 0 := by decide

theorem witness_PassCompleted :
    let b := fun (x y : TabState) => board .cutting x y .pending
    let s := fun (x y : TabState) => cutting .paused x y .pending
    let u := (s .pending .pending).updTool fun t => { t with n := 2 }
    let last := (s .pending .severed).updTab 1 0 0 fun t => { t with used := 2 }
    ((s .pending .pending).seq.pass = some pass ∧ (s .pending .pending).seq.state = .pass ∧
      (s .pending .pending).mode.mode = .paused ∧ (s .pending .pending).seq.order.dropLast = [0, 1] ∧
      (s .pending .pending).job? 1 = some (job 1 .cutting (some .A) (b .pending .pending)) ∧
      (s .pending .pending).board? 1 0 = some (b .pending .pending) ∧
      ((s .pending .pending).tab? 1 0 1).map (·.state) ≠ some .severed) ∧
    (u.tool.hardCount = 0 ∧ u.tool.k + 1 < u.tool.n) ∧
    ((s .pending .pending).tool.n ≤ (s .pending .pending).tool.k + 1 ∧ (s .pending .pending).tool.rack = [] ∧
      (u.updTool fun t => { t with hardCount := 1, rack := [bit] }).mode.options.changer = true ∧ 0 + 1 < recipe.passLimit) ∧
    (recipe.passLimit ≤ 2 + 1 ∧ (last.tab? 1 0 0).map (·.used) = some 2 ∧ last.jobRecipe? 1 = some recipe) ∧
    ((s .pending .severed).tab? 1 0 1).map (·.state) = some .severed ∧
    (still .run).seq.state ≠ .pass ∧ pass.req ≠ 6#16 := by decide

theorem witness_PassCompleted_held :
    let b := board .held .pending .severed .severed
    let r := { pass with held := true }
    let s := (cutting .paused .pending .severed .severed).updJobs fun _ => [job 1 .cutting (some .A) b]
    let s := s.updSeq fun q => { q with board := none, order := [], holdList := [0], pass := some r }
    let s := s.updPick fun k => { k with head := .holding, served := some ref, queue := [ref], demand := true, heldPass := true }
    (s.seq.pass = some r ∧ s.seq.state = .pass ∧ s.mode.mode = .paused ∧ s.job? 1 = some (job 1 .cutting (some .A) b) ∧
      s.board? 1 0 = some b ∧ s.tab? 1 0 0 = some newTab ∧ s.jobRecipe? 1 = some recipe ∧ newTab.used + 1 < recipe.passLimit ∧
      s.pick.holdLost = false) ∧
    (let u := s.updPick fun k => { k with holdLost := true, retry := true }
     u.pick.holdLost = true ∧ u.pick.retry = true ∧ s.pick.retry = false) ∧
    (let u := s.updTab 1 0 0 fun t => { t with used := 2 }
     (u.tab? 1 0 0).map (·.used) = some 2 ∧ recipe.passLimit ≤ 2 + 1) := by decide

/-- A pass on the held tab of board 0, whose code claim 1 names and claim 0 holds in its range; bay 0 is ONLINE and free. -/
def severing (direct : Bool) (b : BoardRec) : State :=
  let p := { pass with held := true }
  let s := racked .online (List.replicate 10 freeSlot) (listed [job 1 .cutting (some .A) b] (still .paused))
  let s := s.updMode fun m => { m with options := { m.options with tray := true } }
  let s := s.updRoute fun r =>
    { r with
      claims := #v[⟨true, 1, 4095, 0, 0, false⟩, ⟨direct, 4095, 4095, 0, 0, true⟩, r.claims[2], r.claims[3], r.claims[4],
        r.claims[5], r.claims[6], r.claims[7]] }
  (s.updSeq fun q => { q with state := .pass, job := 1, pass := some p }).updPick fun k =>
    { k with head := .holding, served := some ref, heldPass := true, demand := true }

theorem witness_SeveredBoardRouted :
    let b := board .held .pending .severed .severed
    let s := severing true b
    (s.seq.pass.map (·.held) = some true ∧ s.seq.state = .pass ∧ s.mode.mode = .paused ∧ s.seq.job = 1 ∧
      s.job? 1 = some (job 1 .cutting (some .A) b) ∧ s.board? 1 0 = some b ∧ (s.tab? 1 0 0).isSome = true ∧
      s.jobRecipe? 1 = some recipe ∧ s.pick.holdLost = false ∧ b.damage = false ∧ b.xout = false) ∧
    (s.product 1 0 = 4095 ∧ (tryEntry recipe.hc s s.route.claims[1]).toOption = some ⟨0, 0, 3⟩ ∧ s.route.claims[0].low ≠ 4095) ∧
    ((severing false b).route.claims[1].enabled = false ∧
      (tryEntry recipe.hc (severing false b) s.route.claims[0]).toOption = some ⟨0, 0, 3⟩) ∧
    ({ b with damage := true }.damage = true ∧ (severing true { b with damage := true }).mode.options.tray = true ∧
      (severing true { b with damage := true }).route.trayCount < 40) ∧
    (s.updPick fun k => { k with holdLost := true }).pick.holdLost = true := by decide

theorem witness_SeveredBoardRouted_waits :
    let s := severing true (board .held .pending .severed .severed)
    let full := s.updBayRec 0 fun r => { r with slots := some (List.replicate 10 { state := .preloaded, ref := .none }) }
    let unclaimed := s.updRoute fun r => { r with claims := Vector.replicate 8 State.resetClaim, trayPolicy := true }
    (s.route.wait = none ∧ full.route.claims.toList.map (·.enabled) = [true, true, false, false, false, false, false, false] ∧
      full.route.claims.toList.map (lacksRun recipe.hc full) = List.replicate 8 true) ∧
    ((∀ e ∈ unclaimed.route.claims.toList, e.enabled = false) ∧ unclaimed.route.trayPolicy = true ∧
      unclaimed.mode.options.tray = true ∧ unclaimed.route.trayCount < 40 ∧
      40 ≤ (unclaimed.updRoute fun r => { r with trayCount := 40 }).route.trayCount) ∧
    (s.updMode fun m => { m with options := { m.options with tray := false } }).mode.options.tray = false := by decide

/-! ## Witnesses: stops, lines, homing and park -/

/-- A shuttle move, a pick motion, a tool change and a latch motion are in flight. -/
def moving (m : Mode) : State :=
  let s := (still m).updShuttle .A fun r => { r with state := .movingIn, moveReq := some 3#16 }
  let s := s.updPick fun p => { p with head := .transfer, motion := .inFlight .transfer 4#16 }
  let s := s.updTool fun t =>
    { t with
      state := .changing, rack := [bit]
      op := some { phase := .moving, entry := bit, attempts := 1, req := some 5#16 } }
  s.updBayRec 0 fun r => { r with state := .released, latch := .inFlight 6#16 }

theorem witness_CutWatchStops :
    let b := board .cutting .pending .pending .pending
    let s := cutting .run .pending .pending .pending
    (Cuts s pass (job 1 .cutting (some .A) b) b newTab ∧ s.mode.mode ≠ .stopped) ∧
    (let b := board .held .pending .severed .severed
     let u := (severing true b).updPick fun p => { p with holdLost := true }
     (u.seq.pass.map (·.job)) = some 1 ∧ u.job? 1 = some (job 1 .cutting (some .A) b) ∧ u.mode.mode ≠ .stopped ∧
       u.pick.heldPass = true ∧ u.pick.holdLost = true ∧ u.pick.served = some ref ∧ u.boardState 1 0 = some .held ∧
       u.pick.retry = false ∧ (u.updPick fun p => { p with retry := true }).pick.retry = true) ∧
    (still .run).seq.pass = none := by decide

theorem witness_InterlockStops :
    (still .stopped).mode.mode = .stopped ∧
    ((moving .run).mode.mode ≠ .stopped ∧ (moving .run).seq.pass = none ∧ (moving .run).pick.heldPass = false) ∧
    (State.reset.mode.mode = .homing ∧ State.reset.seq.pass = none) ∧
    (let b := board .held .pending .severed .severed
     Cuts (severing true b) { pass with held := true } (job 1 .cutting (some .A) b) b newTab ∧
       (severing true b).pick.heldPass = true ∧ (severing true b).mode.mode ≠ .stopped) := by decide

/-- R1: a halt carries its group's next number, 65535 followed by 0. -/
theorem test_halt_numbered :
    let s := (still .run).updDrive fun d => { d with pick := 65535#16 }
    (match exec (.interlockActivation .door) s with
     | .next t => t.out.sent.contains (.request .pick 65535#16 .halt) && t.drive.pick == 0#16
     | _ => false) = true := by decide

theorem witness_DriveFaultStops :
    (still .stopped).mode.mode = .stopped ∧ (still .paused).mode.mode = .paused ∧ (still .paused).seq.pass = none ∧
    (∀ x ∈ [(Group.shuttle, 3#16), (.pick, 4#16), (.bay, 6#16)],
      (moving .run).requestInFlight x.1 x.2 = true ∧ (moving .run).movingChange x.2 = false) ∧
    State.reset.requestInFlight .spindle 0#16 = true ∧
    (let b := board .cutting .pending .pending .pending
     let s := cutting .run .pending .pending .pending
     s.requestInFlight .spindle 7#16 = true ∧ Cuts s pass (job 1 .cutting (some .A) b) b newTab ∧ s.mode.mode ≠ .stopped) ∧
    (still .run).requestInFlight .bay 0#16 = false ∧ (still .run).movingChange 0#16 = false := by decide

/-- R1, R192: a halt is in flight from its sending. In STOPPED a fault event about it adds the cause and ends it; a second one
with its number is not applied. -/
theorem test_halt_faulted :
    let s := (still .stopped).updMode fun m => { m with haltReq := m.haltReq.set .pick (some 9#16) }
    s.requestInFlight .pick 9#16 = true ∧
    (match exec (.driveFaultEvent .pick (some 9#16)) s with
     | .next t => t.mode.stop.driveFault && t.mode.faulted.pick && !t.requestInFlight .pick 9#16
     | _ => false) = true := by decide

theorem witness_LineHoldFollowed :
    LinesOk (still .run).mode ∧ (still .run).mode.straps.upline = .input ∧ (still .run).mode.options.upUse = .input ∧
    (still .run).mode.straps.downline = .output ∧ NothingHeld (still .run) ∧ (still .homing).mode.mode = .homing ∧
    (let s := (still .run).updMode fun m => { m with options := { m.options with upUse := .unused } }
     LinesOk s.mode ∧ s.mode.options.upUse ≠ .input) ∧
    (let s := (still .paused).updMode fun m => { m with pause := { host := false, line := true }, upLevel := true }
     LinesOk s.mode ∧ s.mode.mode = .paused ∧ s.mode.pause.host = false ∧ s.mode.pause.line = true) := by
  refine ⟨by decide, rfl, rfl, rfl, still_nothingHeld .run, rfl, by decide, by decide⟩

theorem witness_LineHoldFollowed_beside :
    let s := fun (m : Mode) (host line : Bool) => (still m).updMode fun r =>
      { r with pause := ⟨host, line⟩, upLevel := line }
    (∀ m ∈ [Mode.paused, .parking], ∀ host ∈ [false, true], ∀ line ∈ [false, true],
      LinesOk (s m host line).mode ∧ (s m host line).mode.mode = m ∧ (s m host line).mode.pause = ⟨host, line⟩ ∧
        (s m host line).mode.straps.upline = .input ∧ (s m host line).mode.options.upUse = .input) ∧
    groups.filter (s .parking false true).parkDue = groups := by decide

/-- Three groups are referenced or parked; the fourth's request is in flight. -/
def lastGroup (m : Mode) : State :=
  let three : GroupSet := { spindle := true, pick := true, shuttle := true, bay := false }
  let one : PerGroup (Option ReqNo) := { spindle := none, pick := none, shuttle := none, bay := some 9#16 }
  (still m).updMode fun r => { r with referenced := three, parkDone := three, refReq := one, parkReq := one }

theorem witness_HomingAndParkEnd :
    (let s := (lastGroup .homing).updMode fun m => { m with pause := { host := true, line := false } }
     s.mode.mode = .homing ∧ s.mode.refReq.get .bay = some 9#16 ∧ s.pick.resetCarry = false ∧
       allGroups (s.mode.referenced.set .bay true) = true ∧ s.pick.awaited = .none ∧ s.mode.pause.any = true ∧
       NothingHeld s) ∧
    ((lastGroup .homing).mode.pause.any = false ∧ (lastGroup .homing).mode.refReq.get .spindle ≠ some 9#16) ∧
    (State.reset.mode.refReq.get .pick = some 0#16 ∧ allGroups (State.reset.mode.referenced.set .pick true) = false) ∧
    ((lastGroup .parking).mode.parkReq.get .bay = some 9#16 ∧
      allGroups ((lastGroup .parking).mode.parkDone.set .bay true) = true) ∧
    (let s := (lastGroup .parking).updMode fun m => { m with parkDone := State.noGroups }
     allGroups (s.mode.parkDone.set .bay true) = false) := by
  refine ⟨⟨rfl, rfl, rfl, rfl, rfl, rfl, still_nothingHeld .homing⟩, ?_⟩
  decide

theorem witness_HomingAndParkEnd_placing :
    let s := fun (aw : Destination) (host : Bool) =>
      let s := racked .online reservedMap (listed [job 1 .cutting (some .A) (board .placing .severed .severed .severed)]
        (lastGroup .homing))
      let s := s.updBayRec 0 fun r => { r with awaited := some ⟨0, 1⟩ }
      (s.updMode fun m => { m with pause := ⟨host, false⟩ }).updPick fun p =>
        { p with head := .placing, carried := some ref, awaited := aw }
    (∀ aw ∈ [Destination.run 0 0 1, .tray], ∀ host ∈ [false, true],
      (s aw host).mode.mode = .homing ∧ (s aw host).mode.refReq.get .bay = some 9#16 ∧
        allGroups ((s aw host).mode.referenced.set .bay true) = true ∧ (s aw host).pick.carried = some ref ∧
        (s aw host).boardState 1 0 = some .placing ∧ (s aw host).pick.awaited = aw) ∧
    runHead? ((s .tray false).bayRec 0).map 0 = some head ∧ (∃ i ∈ [0], 0 ≤ i ∧ i < 0 + 1) ∧
      ∀ i ∈ [1, 49], ¬ (0 ≤ i ∧ i < 0 + 1) := by decide

theorem witness_HomingAndParkEnd_carry :
    let s := fun (all : GroupSet) => (still .homing).updMode fun m =>
      { m with referenced := all, refReq := { spindle := none, pick := some 65535#16, shuttle := none, bay := none } }
    let kept := fun (all : GroupSet) => (s all).updPick fun p => { p with demand := true, resetCarry := true }
    ∀ all ∈ [State.noGroups, (PerGroup.const true).set .pick false],
      (kept all).mode.mode = .homing ∧ (kept all).mode.refReq.pick = some 65535#16 ∧ (kept all).pick.resetCarry = true ∧
        allGroups ((kept all).mode.referenced.set .pick true) = decide (all ≠ State.noGroups) := by decide

/-! ## Witnesses: the pick head and the bays -/

theorem witness_VacuumFollowed :
    (let s := onHead .approach .holdPending true
     s.pick.served = some ref ∧ s.pick.head = .approach ∧ s.pick.demand = true ∧
       s.boardState 1 0 = some .holdPending ∧ s.seq.state ≠ .awaitHold) ∧
    (let s := onHead .holding .held true
     s.pick.head = .holding ∧ s.pick.heldPass = false ∧ s.pick.retry = false ∧ s.boardState 1 0 = some .held) ∧
    ((onHead .holding .held true).updPick fun p => { p with heldPass := true }).pick.heldPass = true ∧
    (let s := (onHead .approach .holdPending true).updPick fun p => { p with vacWatch := true }
     s.pick.vacWatch = true ∧ s.pick.retry = false) ∧
    (let s := (onHead .approach .holdPending true).updPick fun p => { p with vacWatch := true, retry := true }
     s.pick.retry = true ∧ s.boardState 1 0 = some .holdPending) ∧
    (let s := onHead .placing .singled true
     s.pick.carried = some ref ∧ s.pick.head = .placing ∧ s.boardState 1 0 = some .singled) ∧
    (still .run).pick.head ≠ .approach ∧ (still .run).pick.head = .idle ∧ (still .run).pick.vacWatch = false := by decide

theorem witness_MotionsComplete :
    let s := fun (k : MotionKind) (d : Destination) =>
      ((onHead .placing .singled true).updBoard 1 0 fun b => { b with dest := d }).updPick fun p =>
        { p with motion := .inFlight k 5#16 }
    (s .approach .none).pick.motion = .inFlight .approach 5#16 ∧ (s .transfer .none).pick.motion = .inFlight .transfer 5#16 ∧
    (s .parkWait .none).pick.motion = .inFlight .parkWait 5#16 ∧
    ((s .lower (.run 3 49 1)).pick.motion = .inFlight .lower 5#16 ∧ (s .lower (.run 3 49 1)).pick.carried = some ref ∧
      ((s .lower (.run 3 49 1)).board? 1 0).map (·.dest) = some (.run 3 49 1) ∧
      (s .lower (.run 3 49 1)).boardState 1 0 = some .singled) ∧
    ((s .lower .tray).board? 1 0).map (·.dest) = some .tray ∧
    ((s .ret .none).pick.motion = .inFlight .ret 5#16 ∧ (s .ret .none).pick.queue = []) ∧
    ((s .ret .none).updPick fun p => { p with queue := [ref] }).pick.queue = [ref] ∧
    (still .run).pick.motion ≠ .inFlight .ret 5#16 := by decide

theorem witness_PlacementSettled :
    (let s := ((racked .online reservedMap (onHead .placing .placing false)).updPick fun p =>
        { p with placeWatch := true, awaited := .run 0 0 1 }).updBayRec 0 fun r =>
        { r with awaited := some { first := 0, count := 1 } }
     s.pick.carried = some ref ∧ s.boardState 1 0 = some .placing ∧ s.bayFitted 0 = true ∧ (s.bayRec 0).state = .online ∧
       (s.bayRec 0).awaited = some { first := 0, count := 1 } ∧ runHead? (s.bayRec 0).map 0 = some head ∧
       s.pick.placeWatch = true ∧ s.pick.awaited = .run 0 0 1) ∧
    (let s := ((onHead .placing .placing false).updPick fun p => { p with placeWatch := true, awaited := .tray }).updBay
        fun c => { c with trayAwaited := true }
     s.bay.trayAwaited = true ∧ s.pick.awaited = .tray ∧ s.boardState 1 0 = some .placing) ∧
    (still .run).bay.trayAwaited = false ∧ (still .run).pick.placeWatch = false := by decide

theorem witness_RunsFound :
    ((40 ≤ 40 ∧ 40 ≤ 2500) ∧ runSize 40 1000 = 1 ∧ runSize 2500 200 = 13) ∧
    (let s := (racked .online (List.replicate 10 freeSlot) (still .run)).updBayRec 0 fun r =>
        { r with mag := some { magazine with pitch := 200 } }
     8 < runSize 2500 200 ∧ s.bayEnabled 0 = true ∧ (s.bayRec 0).state = .online ∧
       ((s.bayRec 0).mag.map (·.pitch)) = some 200 ∧ (s.bayRec 0).zones[0]? = some { first := 0, last := 9 }) := by decide

theorem witness_MagazineLinesFollowed :
    ((still .run).updMode fun m => { m with straps := { m.straps with bays := .two } }).bayFitted 2 = false ∧
    ((still .run).bayFitted 3 = true ∧ ((still .run).bayRec 3).state = .empty) ∧
    (((still .run).updBayRec 3 fun r => { r with state := .present }).bayRec 3).state = .present ∧
    (let s := racked .released reservedMap (still .run)
     (s.bayRec 0).mag = some magazine ∧ (s.bayRec 0).state = .released ∧ s.mode.mode ≠ .parking) ∧
    (let s := racked .draining (List.replicate 10 freeSlot) (still .run)
     (s.bayRec 0).mag = some magazine ∧ (s.bayRec 0).state = .draining ∧ anyReserved (s.bayRec 0).map = false) ∧
    (let s := racked .draining reservedMap (onHead .transfer .singled true)
     (s.bayRec 0).state = .draining ∧ (s.bayRec 0).map[0]? = some { state := .reserved, ref := .head head } ∧
       s.pick.carried = some { job := head.job, board := head.board } ∧ (s.board? head.job head.board).isSome = true ∧
       (s.bayRec 0).awaited = none) ∧
    (let s := (racked .online reservedMap (onHead .placing .placing false)).updBayRec 0 fun r =>
        { r with awaited := some { first := 0, count := 1 } }
     (s.bayRec 0).awaited.isSome = true ∧ s.boardState 1 0 = some .placing) ∧
    (((still .run).updBayRec 3 fun r => { r with latch := .inFlight 1#16 }).bayRec 3).latch = .inFlight 1#16 ∧
    ((still .run).bayRec 3).latch ≠ .inFlight 1#16 := by decide

theorem witness_StraySlotsBlocked :
    ((still .run).bayRec 0).state = .empty ∧
    (let s := racked .released reservedMap (still .run)
     (s.bayRec 0).state = .released ∧ s.bayFitted 0 = true ∧ (s.bayRec 0).awaited = none ∧
       ((s.bayRec 0).map[0]?).map (·.state) = some .reserved ∧ (s.bayRec 0).map[10]? = none ∧
       (s.bayRec 0).map[9]? = some freeSlot ∧ s.mode.options.autoSwap = false) ∧
    (((racked .online reservedMap (still .run)).updBayRec 0 fun r =>
      { r with awaited := some { first := 0, count := 1 } }).bayRec 0).awaited = some { first := 0, count := 1 } := by decide

theorem witness_ChangerEnds :
    let op : ChangerOp := { phase := .moving, entry := bit, attempts := 1, req := some 0#16 }
    let s := (still .run).updTool fun t => { t with state := .changing, rack := [bit], op := some op }
    (s.tool.op = some op ∧ op.phase = .moving ∧ op.req = some 0#16 ∧ s.mode.mode ≠ .parking ∧ s.seq.state ≠ .toolWait ∧
      s.link.flags.changerFault = false) ∧
    (still .run).movingChange 0#16 = false ∧ (still .run).changerMoving = false ∧ s.movingChange 1#16 = false := by decide

theorem witness_ChangerEnds_toolWait :
    let op : ChangerOp := { phase := .moving, entry := bit, attempts := 1, req := some 0#16 }
    let s := fun (m : Mode) (st : BoardState) => (awaitingBit m st (still m)).updTool fun t =>
      { t with state := .changing, rack := [bit], op := some op }
    (∀ m ∈ [Mode.run, .paused, .stopped], (s m .cutting).tool.op = some op ∧ (s m .cutting).seq.state = .toolWait ∧
      (s m .cutting).seq.job ≠ 0 ∧ (s m .cutting).seq.pass = none ∧ (s m .cutting).withdrawing 1 = false ∧
      (s m .cutting).mode.mode = m) ∧
    AwaitsBit (s .run .cutting) fixedTab false newTab recipe tab ∧ AwaitsBit (s .run .held) fixedTab true newTab recipe tab ∧
      (firstGrant bit 1 recipe tab.w 1).debit ≤ (segmentShares bit).headD 0 := by decide

end Sys2Proof.Tests
end

section
/-! SUPPORT. What the Mode Controller's operations and the commands' own works leave alone. An operation of the Mode Controller
keeps of the fixed part everything but the mode record; the work of a command of another working block keeps all of it, or all but
the mode record where the park test follows (R195). -/

namespace Sys2Proof.Machine

/-- The fixed part with the mode record left out. -/
def Fixed.butMode (x : Fixed) : Fixed := { x with mode := State.resetMode }

variable (s : State)

/-- What keeps the fixed part but the mode record keeps the Recipe Store. -/
theorem store_of_butMode {s t : State} (h : t.fixed.butMode = s.fixed.butMode) : t.store = s.store :=
  congrArg Fixed.store h

/-- What keeps the fixed part keeps the Recipe Store. -/
theorem store_of_fixed {s t : State} (h : t.fixed = s.fixed) : t.store = s.store := congrArg Fixed.store h

@[simp] theorem updMode_butMode (f : ModeRec → ModeRec) : (s.updMode f).fixed.butMode = s.fixed.butMode := rfl

/-- A fold of steps that keep the fixed part but the mode record keeps it. -/
theorem foldl_butMode {α : Type} (f : State → α → State) (hf : ∀ s x, (f s x).fixed.butMode = s.fixed.butMode) (l : List α) :
    ∀ s : State, (l.foldl f s).fixed.butMode = s.fixed.butMode := by
  induction l with
  | nil => exact fun _ => rfl
  | cons x rest ih => intro s; simp [ih, hf]

/-! ## The Mode Controller -/

@[simp] theorem setOutputs_butMode : (setOutputs s).fixed.butMode = s.fixed.butMode := by
  rcases setOutputs_cases s with e | e <;> rw [e] <;> simp

@[simp] theorem setMode_butMode (m : Mode) : (setMode m s).fixed.butMode = s.fixed.butMode := by
  cases m <;> simp [setMode]

@[simp] theorem parkGroup_butMode (g : Group) : (parkGroup s g).fixed.butMode = s.fixed.butMode := by
  unfold parkGroup; dsimp only; split <;> simp

@[simp] theorem parkTest_butMode : (parkTest s).fixed.butMode = s.fixed.butMode := foldl_butMode _ (by simp) _ s

@[simp] theorem followPause_butMode : (followPause s).fixed.butMode = s.fixed.butMode := by
  unfold followPause; repeat' split
  all_goals simp

@[simp] theorem setPause_butMode (p : PauseCauses) : (setPause p s).fixed.butMode = s.fixed.butMode := by
  unfold setPause; split <;> simp

@[simp] theorem stopBlocks_butMode (m : Mode) (c : StopCause) : (stopBlocks m c s).fixed.butMode = s.fixed.butMode := by
  unfold stopBlocks; dsimp only; split <;> simp

@[simp] theorem haltGroups_butMode : (haltGroups s).fixed.butMode = s.fixed.butMode :=
  foldl_butMode _ (by simp [haltGroup]) _ s

@[simp] theorem addStop_butMode (c : StopCause) : (addStop c s).fixed.butMode = s.fixed.butMode := by
  unfold addStop; dsimp only; split <;> simp

@[simp] theorem requestReferencing_butMode : (requestReferencing s).fixed.butMode = s.fixed.butMode :=
  foldl_butMode _ (by simp [referenceGroup]) _ _

@[simp] theorem startHoming_butMode (k : HomingKind) : (startHoming k s).fixed.butMode = s.fixed.butMode := by
  simp [startHoming]

@[simp] theorem settleAwaited_fixed (occupied : List Nat) : (settleAwaited occupied s).fixed = s.fixed := by
  unfold settleAwaited; repeat' split
  all_goals simp

@[simp] theorem restartVacuumWatch_fixed : (restartVacuumWatch s).fixed = s.fixed := by
  unfold restartVacuumWatch; split <;> simp

@[simp] theorem releaseCarry_fixed : (releaseCarry s).fixed = s.fixed := by
  unfold releaseCarry; split <;> simp

@[simp] theorem endHoming_butMode (occupied : List Nat) : (endHoming occupied s).fixed.butMode = s.fixed.butMode := by
  simp [endHoming]

/-! ## The Mode Controller's commands -/

@[simp] theorem readLines_butMode : (readLines s).fixed.butMode = s.fixed.butMode := by simp [readLines]

@[simp] theorem endStop_butMode : (endStop s).fixed.butMode = s.fixed.butMode := by simp [endStop]

@[simp] theorem startPark_butMode : (startPark s).fixed.butMode = s.fixed.butMode := by simp [startPark]

@[simp] theorem lineChanges_butMode (l : HoldLine) (v : Bool) : (lineChanges l v s).fixed.butMode = s.fixed.butMode := by
  unfold lineChanges; dsimp only; split <;> simp

@[simp] theorem groupFaults_butMode (g : Group) (req : Option ReqNo) :
    (groupFaults g req s).fixed.butMode = s.fixed.butMode := by simp [groupFaults]

@[simp] theorem groupReferenced_butMode (g : Group) (occupied : List Nat) :
    (groupReferenced g occupied s).fixed.butMode = s.fixed.butMode := by
  unfold groupReferenced; dsimp only; split <;> split <;> simp

@[simp] theorem groupParked_butMode (g : Group) : (groupParked g s).fixed.butMode = s.fixed.butMode := by
  unfold groupParked; dsimp only; split <;> simp

/-! ## The Cut Sequencer's and the Tool Monitor's commands -/

@[simp] theorem cutWatchExpires_butMode : (cutWatchExpires s).fixed.butMode = s.fixed.butMode := by simp [cutWatchExpires]

@[simp] theorem declareBit_fixed (d : BitDesc) : (declareBit d s).fixed = s.fixed := by simp [declareBit]

@[simp] theorem addToRack_fixed (d : BitDesc) : (addToRack d s).fixed = s.fixed := by
  unfold addToRack; dsimp only; split <;> simp

@[simp] theorem fitFromRack_butMode (d : BitDesc) : (fitFromRack d s).fixed.butMode = s.fixed.butMode := by
  simp [fitFromRack]

/-! ## The Bay Controller's commands -/

@[simp] theorem acceptMagazine_fixed (b : Bay) (m : RawMagazine) : (acceptMagazine b m s).fixed = s.fixed := by
  simp [acceptMagazine]

@[simp] theorem strayEvent_fixed (b : Bay) (n : Nat) : (strayEvent b n s).fixed = s.fixed := by
  unfold strayEvent; dsimp only; split <;> simp

@[simp] theorem slotSeen_fixed (b : Bay) (n : Nat) : (slotSeen b n s).fixed = s.fixed := by
  unfold slotSeen; repeat' split
  all_goals simp

@[simp] theorem setMagazineLine_fixed (b : Bay) (v : Bool) : (setMagazineLine b v s).fixed = s.fixed := rfl

@[simp] theorem magazineArrives_fixed (b : Bay) : (magazineArrives b s).fixed = s.fixed := by
  unfold magazineArrives; dsimp only; split <;> simp

@[simp] theorem expectedRemoval_butMode (b : Bay) : (expectedRemoval b s).fixed.butMode = s.fixed.butMode := by
  simp [expectedRemoval]

@[simp] theorem settleRemoved_fixed (awaited : Bool) (r : BoardRef) : (settleRemoved awaited r s).fixed = s.fixed := by
  cases awaited <;> simp [settleRemoved]

@[simp] theorem unexpectedRemoval_fixed (b : Bay) : (unexpectedRemoval b s).fixed = s.fixed := by
  unfold unexpectedRemoval; dsimp only; split <;> simp

@[simp] theorem magazineLeaves_butMode (b : Bay) : (magazineLeaves b s).fixed.butMode = s.fixed.butMode := by
  unfold magazineLeaves; dsimp only; split <;> simp

@[simp] theorem latchOpens_butMode (b : Bay) : (latchOpens b s).fixed.butMode = s.fixed.butMode := by simp [latchOpens]

/-! ## The Job List's commands -/

@[simp] theorem dropJob_fixed (tag : Nat) (l : LeaveListCause) : (dropJob tag l s).fixed = s.fixed := by simp [dropJob]

@[simp] theorem evictOne_fixed : (evictOne s).fixed = s.fixed := by
  unfold evictOne; repeat' split
  all_goals simp

@[simp] theorem handToShuttles_fixed (tag : Nat) (p : Preference) : (handToShuttles tag p s).fixed = s.fixed := by
  unfold handToShuttles; split <;> simp

@[simp] theorem markHostWithdrawal_fixed (tag : Nat) : (markHostWithdrawal tag s).fixed = s.fixed := rfl

@[simp] theorem leaveAtWindow_fixed (sh : Shuttle) : (leaveAtWindow sh s).fixed = s.fixed := rfl

@[simp] theorem stopSequencing_fixed (tag : Nat) : (stopSequencing tag s).fixed = s.fixed := rfl

@[simp] theorem withdrawJob_fixed (j : Job) : (withdrawJob j s).fixed = s.fixed := by
  unfold withdrawJob; dsimp only; repeat' split
  all_goals simp

/-! ## The Pick Controller's commands -/

@[simp] theorem grantHold_fixed : (grantHold s).fixed = s.fixed := by
  unfold grantHold; dsimp only; split <;> simp

@[simp] theorem loseVacuum_fixed : (loseVacuum s).fixed = s.fixed := by
  unfold loseVacuum; repeat' split
  all_goals simp

@[simp] theorem vacuumWatchExpires_fixed : (vacuumWatchExpires s).fixed = s.fixed := by
  unfold vacuumWatchExpires; repeat' split
  all_goals simp

@[simp] theorem approachEnds_fixed : (approachEnds s).fixed = s.fixed := rfl

@[simp] theorem transferEnds_fixed : (transferEnds s).fixed = s.fixed := by simp [transferEnds]

@[simp] theorem expectPlacement_fixed (d : Destination) : (expectPlacement d s).fixed = s.fixed := by
  cases d <;> simp [expectPlacement]

@[simp] theorem releaseBoard_fixed : (releaseBoard s).fixed = s.fixed := by
  unfold releaseBoard; dsimp only; split <;> simp

@[simp] theorem returnEnds_fixed : (returnEnds s).fixed = s.fixed := by simp [returnEnds]

/-! ## The Shuttle Controller's commands -/

@[simp] theorem setPanelLine_fixed (sh : Shuttle) (v : Bool) : (setPanelLine sh v s).fixed = s.fixed := rfl

@[simp] theorem panelArrives_fixed (sh : Shuttle) : (panelArrives sh s).fixed = s.fixed := by
  unfold panelArrives; split <;> simp

@[simp] theorem withdrawRemoved_fixed (tag : Nat) : (withdrawRemoved tag s).fixed = s.fixed := by simp [withdrawRemoved]

@[simp] theorem earlyRemoval_fixed (sh : Shuttle) : (earlyRemoval sh s).fixed = s.fixed := by simp [earlyRemoval]

@[simp] theorem panelLeaves_fixed (sh : Shuttle) : (panelLeaves sh s).fixed = s.fixed := by
  unfold panelLeaves; split <;> simp

@[simp] theorem arriveAtCut_fixed (sh : Shuttle) : (arriveAtCut sh s).fixed = s.fixed := by
  unfold arriveAtCut; dsimp only; split <;> simp

/-! ## The resets -/

@[simp] theorem beginReset_fixed (e : CellEvent) : (beginReset e s).fixed = s.fixed := by simp [beginReset]

@[simp] theorem readInterlocks_butMode : (readInterlocks s).fixed.butMode = s.fixed.butMode := by
  unfold readInterlocks; dsimp only; split <;> split <;> simp

@[simp] theorem restartMode_butMode : (restartMode s).fixed.butMode = s.fixed.butMode := by
  unfold restartMode; dsimp only; split <;> simp

@[simp] theorem resetToolState_fixed : (resetToolState s).fixed = s.fixed := by
  unfold resetToolState; split <;> simp

@[simp] theorem resetOneBay_fixed (b : Bay) : (resetOneBay s b).fixed = s.fixed := by
  unfold resetOneBay; dsimp only; repeat' split
  all_goals simp

@[simp] theorem resetBays_fixed : (resetBays s).fixed = s.fixed := by
  unfold resetBays; dsimp only
  rw [foldl_fixed _ (by simp), foldl_fixed _ (by simp)]; simp

end Sys2Proof.Machine
end

section
/-! SUPPORT. The Recipe Store's operations (R2, R6, R8, R10): what they make of the list of recipes, of the pool entries it holds
and of the properties that a run keeps. -/

namespace Sys2Proof.Machine

/-! ## The list of recipes -/

@[simp] theorem total_nil : total [] = 0 := rfl
@[simp] theorem total_cons (n : Nat) (l : List Nat) : total (n :: l) = n + total l := rfl

/-- The recipes are listed in ascending number (R2). -/
abbrev Ascending (l : List Recipe) : Prop := l.Pairwise fun a b => a.number < b.number

variable {x r : Recipe} {l : List Recipe} {n : Nat}

theorem Ascending.head_lt (h : Ascending (x :: l)) : ∀ y ∈ l, x.number < y.number := (List.pairwise_cons.mp h).1
theorem Ascending.tail (h : Ascending (x :: l)) : Ascending l := (List.pairwise_cons.mp h).2

/-- A number below the first one is that of no recipe listed. -/
theorem Ascending.ne_of_lt (h : Ascending (x :: l)) (hn : n < x.number) : ∀ y ∈ x :: l, y.number ≠ n := by
  intro y hy
  rcases List.mem_cons.mp hy with rfl | hy
  · omega
  · have := h.head_lt y hy; omega

/-- The first recipe's number is that of no later one. -/
theorem Ascending.tail_ne (h : Ascending (x :: l)) (hn : n = x.number) : ∀ y ∈ l, y.number ≠ n := by
  intro y hy
  have := h.head_lt y hy
  omega

/-- The pool entries that the recipe listed under a number holds, 0 where none is. -/
def heldIn (l : List Recipe) (n : Nat) : Nat := ((l.find? fun r => r.number == n).map Recipe.tabs).getD 0

theorem Store.held_eq (st : Store) (n : Nat) : st.held n = heldIn st.recipes n := rfl

theorem Store.held_of_find {st : Store} (h : st.find n = some r) : st.held n = r.tabs := by simp [Store.held, h]

theorem heldIn_cons : heldIn (x :: l) n = if x.number = n then x.tabs else heldIn l n := by
  by_cases h : x.number = n <;> simp [heldIn, h]

theorem heldIn_absent (h : ∀ y ∈ l, y.number ≠ n) : heldIn l n = 0 := by
  have hf : l.find? (fun r => r.number == n) = none := by simpa using h
  simp [heldIn, hf]

theorem Store.find_none_iff (st : Store) (n : Nat) : st.find n = none ↔ ∀ r ∈ st.recipes, r.number ≠ n := by
  simp [Store.find]

/-- R8: the place of the recipe's number holds the recipe, and every other place what it held. -/
theorem mem_insertRecipe (h : Ascending l) :
    x ∈ insertRecipe r l ↔ x = r ∨ (x ∈ l ∧ x.number ≠ r.number) := by
  induction l with
  | nil => simp [insertRecipe]
  | cons y rest ih =>
    unfold insertRecipe
    split
    · rename_i hlt
      have hne := h.ne_of_lt hlt
      simp only [List.mem_cons (a := x) (b := r)]
      exact or_congr_right ⟨fun hx => ⟨hx, hne x hx⟩, And.left⟩
    · split
      · rename_i heq
        have hne := h.tail_ne heq
        simp only [List.mem_cons]
        refine or_congr_right ⟨fun hx => ⟨.inr hx, hne x hx⟩, ?_⟩
        rintro ⟨rfl | hx, hn⟩
        · exact absurd heq.symm hn
        · exact hx
      · rename_i hne
        simp only [List.mem_cons, ih h.tail]
        constructor
        · rintro (rfl | hx | hx)
          · exact .inr ⟨.inl rfl, Ne.symm hne⟩
          · exact .inl hx
          · exact .inr ⟨.inr hx.1, hx.2⟩
        · rintro (hx | ⟨hx | hx, hn⟩)
          · exact .inr (.inl hx)
          · exact .inl hx
          · exact .inr (.inr ⟨hx, hn⟩)

theorem insertRecipe_ascending (h : Ascending l) : Ascending (insertRecipe r l) := by
  induction l with
  | nil => simp [insertRecipe]
  | cons y rest ih =>
    unfold insertRecipe
    split
    · rename_i hlt
      refine List.pairwise_cons.mpr ⟨fun z hz => ?_, h⟩
      rcases List.mem_cons.mp hz with rfl | hz
      · exact hlt
      · exact Nat.lt_trans hlt (h.head_lt z hz)
    · split
      · rename_i heq
        exact List.pairwise_cons.mpr ⟨fun z hz => heq ▸ h.head_lt z hz, h.tail⟩
      · refine List.pairwise_cons.mpr ⟨fun z hz => ?_, ih h.tail⟩
        rcases (mem_insertRecipe h.tail).mp hz with rfl | hz
        · omega
        · exact h.head_lt z hz.1

/-- R8: the entries held rise by the new recipe's and fall by the old one's. -/
theorem total_insertRecipe (h : Ascending l) :
    total ((insertRecipe r l).map Recipe.tabs) + heldIn l r.number = total (l.map Recipe.tabs) + r.tabs := by
  induction l with
  | nil => simp [insertRecipe, heldIn]
  | cons y rest ih =>
    unfold insertRecipe
    split
    · rename_i hlt
      rw [heldIn_absent (h.ne_of_lt hlt)]
      simp only [List.map_cons, total_cons]
      omega
    · split
      · rename_i heq
        simp only [heldIn_cons, heq, ↓reduceIte, List.map_cons, total_cons]
        omega
      · rename_i hne
        have := ih h.tail
        simp only [heldIn_cons, Ne.symm hne, ↓reduceIte, List.map_cons, total_cons]
        omega

/-- R10: the entries held fall by those of the recipe dropped. -/
theorem total_filter_number (h : Ascending l) :
    total ((l.filter fun r => r.number != n).map Recipe.tabs) + heldIn l n = total (l.map Recipe.tabs) := by
  induction l with
  | nil => rfl
  | cons y rest ih =>
    by_cases hy : y.number = n
    · have hrest : rest.filter (fun r => r.number != n) = rest := by
        simpa using h.tail_ne hy.symm
      simp only [List.filter_cons, hy, bne_self_eq_false, Bool.false_eq_true, ↓reduceIte, hrest, heldIn_cons,
        List.map_cons, total_cons]
      omega
    · have := ih h.tail
      simp only [List.filter_cons, heldIn_cons, hy, bne_iff_ne, ne_eq, not_false_eq_true, ↓reduceIte, List.map_cons,
        total_cons]
      omega

/-! ## The store -/

/-- R2, R6: the places in order and the free count exact, as `StoreOk` has them, part by part. -/
structure Store.Ok (st : Store) : Prop where
  ascending : Ascending st.recipes
  numbered : ∀ r ∈ st.recipes, 1 ≤ r.number ∧ r.number ≤ 32
  exact_pool : st.free + total (st.recipes.map Recipe.tabs) = 2048

theorem storeOk_iff (s : State) : StoreOk s ↔ s.store.Ok :=
  ⟨fun ⟨ha, hn, hp⟩ => ⟨ha, hn, hp⟩, fun h => ⟨h.ascending, h.numbered, h.exact_pool⟩⟩

/-- What a command can make of the Recipe Store. -/
inductive Store.Change (st : Store) : Store → Prop
  /-- The carried number may change (R30, R199); the places and the free count stand. -/
  | carries (n : Nat) : Store.Change st { st with carried := n }
  /-- R8: a recipe whose number is that of a place and that has room is stored. -/
  | puts (r : Recipe) (place : 1 ≤ r.number ∧ r.number ≤ 32) (room : r.tabs ≤ st.room r.number) : Store.Change st (st.put r)
  /-- R10: a place is emptied. -/
  | drops (n : Nat) : Store.Change st (st.drop n)
  /-- R199: every place is empty. -/
  | clears : Store.Change st { recipes := [], free := Config.poolSize, carried := 0 }

theorem Store.Change.refl (st : Store) : Store.Change st st := .carries st.carried

theorem Store.Change.of_eq {st st' : Store} (h : st' = st) : Store.Change st st' := h ▸ .refl st

/-- R2, R6: every change keeps the places in order and the free count exact. -/
theorem Store.Change.keeps_ok {st st' : Store} (h : Store.Change st st') (ok : st.Ok) : st'.Ok := by
  obtain ⟨ha, hn, hp⟩ := ok
  cases h with
  | carries n => exact ⟨ha, hn, hp⟩
  | puts r place room =>
    refine ⟨insertRecipe_ascending ha, fun x hx => ?_, ?_⟩
    · rcases (mem_insertRecipe ha).mp hx with rfl | hx
      · exact place
      · exact hn x hx.1
    · have hroom : st.room r.number = st.free + heldIn st.recipes r.number := rfl
      have htotal := total_insertRecipe (r := r) ha
      simp only [Store.put]
      omega
  | drops n =>
    refine ⟨ha.filter _, fun x hx => hn x (List.mem_filter.mp hx).1, ?_⟩
    have htotal := total_filter_number (n := n) ha
    simp only [Store.drop, Store.held_eq]
    omega
  | clears => exact ⟨.nil, by simp, rfl⟩

end Sys2Proof.Machine
end

section
/-! SUPPORT. What every command makes of the Recipe Store: the requests' owners one by one, then the link and the resets, then the
dispatch. -/

namespace Sys2Proof.Machine

variable (s : State)

/-! ## Handled requests -/

@[simp] theorem refuse_state (r : Result) : (refuse r s).state = s := rfl
@[simp] theorem refuseField_state (f : FieldAt) : (refuseField f s).state = s := rfl
@[simp] theorem accept_state (b : OkBody) : (accept b s).state = s := rfl
@[simp] theorem acceptCauses_state : (acceptCauses s).state = s := rfl

/-- The work of a request row leaves the state as it is, or as the owner leaves it for some fields read. -/
def HandsTo {α : Type} (work : Frame → State → Handled) (owner : α → State → Handled) : Prop :=
  ∀ f u, (work f u).state = u ∨ ∃ x, (work f u).state = (owner x u).state

theorem guarded_handsTo {α : Type} (r : Reader α) (owner : α → State → Handled) : HandsTo (guarded r owner) owner := by
  intro f u
  unfold guarded
  split
  · exact .inl rfl
  · split
    · exact .inl rfl
    · exact .inr ⟨_, rfl⟩

theorem guardedPresence_handsTo {α : Type} (parse : List Byte → Presence α) (owner : α → State → Handled) :
    HandsTo (guardedPresence parse owner) owner := by
  intro f u
  unfold guardedPresence
  split
  · exact .inl rfl
  · split
    · exact .inl rfl
    · exact .inl rfl
    · exact .inr ⟨_, rfl⟩

theorem unguarded_handsTo {α : Type} (r : Reader α) (owner : α → State → Handled) : HandsTo (unguarded r owner) owner := by
  intro f u
  unfold unguarded
  split
  · exact .inl rfl
  · exact .inr ⟨_, rfl⟩

theorem recipeGuarded_handsTo {α : Type} (r : Reader α) (owner : α → State → Handled) :
    HandsTo (recipeGuarded r owner) owner := guarded_handsTo r owner

/-! ## Checks of fields -/

theorem within_iff (lo hi n : Nat) : within lo hi n = true ↔ lo ≤ n ∧ n ≤ hi := by simp [within]

/-- No field is bad exactly when every check holds. -/
theorem firstBad_none_iff (l : List (Bool × FieldAt)) : firstBad l = none ↔ ∀ c ∈ l, c.1 = true := by
  induction l with
  | nil => simp [firstBad]
  | cons c rest ih =>
    obtain ⟨ok, f⟩ := c
    cases ok <;> simp [firstBad, ih]

/-- R7, step 2: a checked recipe carries the number of a place. -/
theorem number_of_checkRecipe {raw : RawRecipe} (h : checkRecipe raw = none) : 1 ≤ raw.number ∧ raw.number ≤ 32 := by
  simp only [checkRecipe, Option.or_eq_none_iff] at h
  have hnum := (firstBad_none_iff _).mp h.1 _ (List.mem_singleton.mpr rfl)
  exact (within_iff _ _ _).mp hnum

/-! ## The owners of requests -/

@[simp] theorem handleSetCellTag_butMode (tag : List Byte) :
    (handleSetCellTag tag s).state.fixed.butMode = s.fixed.butMode := by
  unfold handleSetCellTag; repeat' split
  all_goals simp

@[simp] theorem handlePause_butMode : (handlePause s).state.fixed.butMode = s.fixed.butMode := by simp [handlePause]

@[simp] theorem handleResume_butMode : (handleResume s).state.fixed.butMode = s.fixed.butMode := by
  unfold handleResume; repeat' split
  all_goals simp

@[simp] theorem handlePark_butMode : (handlePark s).state.fixed.butMode = s.fixed.butMode := by
  unfold handlePark; repeat' split
  all_goals simp

@[simp] theorem handleWake_butMode : (handleWake s).state.fixed.butMode = s.fixed.butMode := by
  unfold handleWake; split <;> simp

@[simp] theorem handleAccept_fixed (m : RawMagazine) : (handleAccept m s).state.fixed = s.fixed := by
  unfold handleAccept; repeat' split
  all_goals simp

@[simp] theorem handleSwap_fixed (n : Nat) : (handleSwap n s).state.fixed = s.fixed := by
  unfold handleSwap; repeat' split
  all_goals simp

@[simp] theorem handleGetBay_fixed (n : Nat) : (handleGetBay n s).state.fixed = s.fixed := by
  unfold handleGetBay; split <;> simp

@[simp] theorem handleWithdraw_fixed (tag : Nat) : (handleWithdraw tag s).state.fixed = s.fixed := by
  unfold handleWithdraw; repeat' split
  all_goals simp

@[simp] theorem handleRelease_fixed (tag : Nat) : (handleRelease tag s).state.fixed = s.fixed := by
  unfold handleRelease; repeat' split
  all_goals simp

@[simp] theorem handleSetTool_fixed (d : BitDesc) : (handleSetTool d s).state.fixed = s.fixed := by
  unfold handleSetTool; repeat' split
  all_goals simp

@[simp] theorem handleRackBit_fixed (d : BitDesc) : (handleRackBit d s).state.fixed = s.fixed := by
  unfold handleRackBit; repeat' split
  all_goals simp

@[simp] theorem handleEmptyTray_fixed : (handleEmptyTray s).state.fixed = s.fixed := by
  unfold handleEmptyTray; split <;> simp

@[simp] theorem handleGetRecipe_state (n : Nat) : (handleGetRecipe n s).state = s := by
  unfold handleGetRecipe; repeat' split
  all_goals rfl

/-! The owners that change what is fixed elsewhere: the link, the claim table, the tray policy, the count of free values. -/

@[simp] theorem handleGetStatus_store : (handleGetStatus s).state.store = s.store := rfl

@[simp] theorem handleSetReports_store (l : List Nat) : (handleSetReports l s).state.store = s.store := by
  unfold handleSetReports; split <;> rfl

@[simp] theorem handleAckFlags_store (l : List Nat) : (handleAckFlags l s).state.store = s.store := by
  unfold handleAckFlags; split <;> rfl

@[simp] theorem handleCellReset_store (mark : Bool) : (handleCellReset mark s).state.store = s.store := by
  cases mark <;> rfl

@[simp] theorem handleGetJob_store (tag : Nat) : (handleGetJob tag s).state.store = s.store := by
  unfold handleGetJob; split
  · rfl
  · simp only [accept_state]; split <;> rfl

@[simp] theorem handleSetClaim_store (c : RawClaim) : (handleSetClaim c s).state.store = s.store := by
  unfold handleSetClaim; split
  · rfl
  · exact (store_of_fixed (retryWait_fixed (s.updRoute _))).trans rfl

@[simp] theorem configure_store (o : Options) (policy : Bool) : (configure o policy s).store = s.store := by
  have h : (configure o policy s).fixed.butMode =
      ((s.updMode fun m => { m with options := o }).updRoute fun r => { r with trayPolicy := policy }).fixed.butMode := by
    unfold configure; dsimp only
    rw [markCell_fixed, tryChange_fixed, foldl_fixed _ (by simp)]; simp
  exact (store_of_butMode h).trans rfl

@[simp] theorem handleConfigure_store (l : List Nat) : (handleConfigure l s).state.store = s.store := by
  unfold handleConfigure; repeat' split
  · rfl
  · rfl
  · simp

/-! The owners that change the store. -/

theorem admitJob_store (a : RawAnnounce) (r : Recipe) :
    (admitJob a r s).state.store = { s.store with carried := if a.repeatMark = 1 then r.number else 0 } := by
  have hstore : (evictOne s).store = s.store := store_of_fixed (evictOne_fixed s)
  unfold admitJob
  simp only [accept_state, store_of_fixed (handToShuttles_fixed _ _ _), State.updMode_store, State.updStore_store,
    store_of_fixed (reportJob_fixed _ _), State.updJobs_store, hstore]

/-- R30: an announcement may change the carried number and nothing else of the store. -/
theorem handleAnnounce_change (a : RawAnnounce) : Store.Change s.store (handleAnnounce a s).state.store := by
  unfold handleAnnounce; repeat' split
  iterate 5 exact .refl _
  exact admitJob_store s a _ ▸ .carries _

/-- R8: LOAD RECIPE stores a recipe that has a place's number and room, or leaves the store as it is. -/
theorem handleLoadRecipe_change (raw : RawRecipe) : Store.Change s.store (handleLoadRecipe raw s).state.store := by
  unfold handleLoadRecipe; dsimp only; split
  · exact .refl _
  · rename_i hcheck
    repeat' split
    · exact .refl _
    · exact .refl _
    · rename_i hroom
      exact .puts raw.recipe (number_of_checkRecipe hcheck) (Nat.le_of_not_lt hroom)

/-- R10: DROP RECIPE empties a place, or leaves the store as it is. -/
theorem handleDropRecipe_change (n : Nat) : Store.Change s.store (handleDropRecipe n s).state.store := by
  unfold handleDropRecipe; repeat' split
  iterate 3 exact .refl _
  exact .drops n

/-! ## The receiver and the resets -/

@[simp] theorem setReceiver_store (r : Receiver) : (setReceiver r s).store = s.store := rfl

@[simp] theorem linkError_store : (linkError s).store = s.store :=
  (store_of_fixed (raiseFlag_fixed (s.updLink _) .linkError)).trans rfl

@[simp] theorem settleFrame_store (k t : Byte) (p c : List Byte) (hi lo : Byte) :
    (settleFrame k t p c hi lo s).store = s.store := by
  unfold settleFrame; dsimp only; split <;> simp

@[simp] theorem assemble_store (got : List Byte) : (assemble got s).store = s.store := by
  unfold assemble; dsimp only; repeat' split
  all_goals simp

@[simp] theorem receiveByte_store (b : Byte) : (receiveByte b s).store = s.store := by
  unfold receiveByte; repeat' split
  all_goals simp

theorem receiveBytes_store (l : List Byte) : ∀ s : State, (receiveBytes l s).store = s.store := by
  induction l with
  | nil => exact fun _ => rfl
  | cons b rest ih => exact fun s => (ih (receiveByte b s)).trans (receiveByte_store s b)

theorem powerOn_store (p : Pins) : (powerOn p s).store = { recipes := [], free := Config.poolSize, carried := 0 } := by
  have h : (powerOn p s).fixed.butMode = (powerOnState p s).fixed.butMode := by simp [powerOn]
  exact store_of_butMode h

theorem cellReset_store : (cellReset s).store = { s.store with carried := 0 } := by
  unfold cellReset; dsimp only
  rw [store_of_fixed (resetBays_fixed _), store_of_butMode (restartMode_butMode _)]
  show (resetToolState _).store = _
  rw [store_of_fixed (resetToolState_fixed _)]
  show { (beginReset _ _).store with carried := 0 } = _
  rw [store_of_fixed (beginReset_fixed _ _)]

/-! ## Commands -/

/-- Where the outcome is a next state, its Recipe Store is a change of the one before. -/
def ChangesStore (s : State) (o : Host.Outcome State Fault Refusal) : Prop :=
  ∀ t, o = .next t → Store.Change s.store t.store

variable {s}

theorem notApplied_changesStore : ChangesStore s (notApplied s) := by
  rintro t ⟨⟩
  exact .refl _

theorem applied_changesStore {f : State → State} (hf : ∀ u, Store.Change u.store (f u).store) :
    ChangesStore s (applied f s) := by
  rintro t ⟨⟩
  rw [finishStep_store]
  exact hf (beginStep s)

/-- A command whose work keeps the fixed part but the mode record keeps the store. -/
theorem applied_steady {f : State → State} (hf : ∀ u, (f u).fixed.butMode = u.fixed.butMode) :
    ChangesStore s (applied f s) :=
  applied_changesStore fun u => .of_eq (store_of_butMode (hf u))

/-- An event that is applied under a condition, its work keeping the fixed part but the mode record, keeps the store. -/
theorem event_steady {p : Prop} [Decidable p] {f : State → State} (hf : ∀ u, (f u).fixed.butMode = u.fixed.butMode) :
    ChangesStore s (if p then applied f s else notApplied s) := by
  split
  · exact applied_steady hf
  · exact notApplied_changesStore

theorem request_changesStore {names : Frame → Bool} {work : Frame → State → Handled}
    (hw : ∀ f u, Store.Change u.store (work f u).state.store) : ChangesStore s (request names work s) := by
  unfold request
  split
  · exact notApplied_changesStore
  · rename_i f rest _
    split
    · rintro t ⟨⟩
      rw [finishStep_store]
      exact hw f (takeFrame rest (beginStep s))
    · exact notApplied_changesStore

/-- A request row changes the store as the owner that it hands the frame to. -/
theorem owner_changesStore {α : Type} {names : Frame → Bool} {work : Frame → State → Handled} {owner : α → State → Handled}
    (hw : HandsTo work owner) (ho : ∀ x u, Store.Change u.store (owner x u).state.store) :
    ChangesStore s (request names work s) :=
  request_changesStore fun f u => by
    rcases hw f u with h | ⟨x, h⟩ <;> rw [h]
    · exact .refl _
    · exact ho x u

/-- A request row whose owner keeps the fixed part but the mode record keeps the store. -/
theorem owner_steady {α : Type} {names : Frame → Bool} {work : Frame → State → Handled} {owner : α → State → Handled}
    (hw : HandsTo work owner) (ho : ∀ x u, (owner x u).state.fixed.butMode = u.fixed.butMode) :
    ChangesStore s (request names work s) :=
  owner_changesStore hw fun x u => .of_eq (store_of_butMode (ho x u))

/-! Commands that are applied in one state of a record, or to one of two effects. -/

theorem execFrameGapTimeout_changesStore : ChangesStore s (execFrameGapTimeout s) := by
  unfold execFrameGapTimeout
  split
  · exact applied_changesStore fun u => .of_eq (linkError_store _)
  · exact notApplied_changesStore

theorem execSkipQuietGap_changesStore : ChangesStore s (execSkipQuietGap s) := by
  unfold execSkipQuietGap
  split
  · exact applied_changesStore fun u => .refl _
  · exact notApplied_changesStore

theorem execFrameSent_changesStore : ChangesStore s (execFrameSent s) := by
  unfold execFrameSent
  split
  · exact applied_changesStore fun u => .refl _
  · exact notApplied_changesStore

theorem execCellResetTakesEffect_changesStore : ChangesStore s (execCellResetTakesEffect s) := by
  unfold execCellResetTakesEffect
  split
  · exact applied_changesStore fun u => cellReset_store u ▸ .carries 0
  · exact notApplied_changesStore

theorem execPassCompletion_changesStore (req : ReqNo) (load : LoadClass) (overrun : Bool) :
    ChangesStore s (execPassCompletion req load overrun s) := by
  unfold execPassCompletion
  split
  · exact event_steady (by simp)
  · exact notApplied_changesStore

theorem execDriveFaultEvent_changesStore (g : Group) (req : Option ReqNo) : ChangesStore s (execDriveFaultEvent g req s) := by
  unfold execDriveFaultEvent
  split
  · exact applied_steady (by simp)
  · exact event_steady (by simp)

theorem execChangerComplete_changesStore (req : ReqNo) : ChangesStore s (execChangerComplete req s) := by
  unfold execChangerComplete
  split
  · exact event_steady (by simp)
  · exact notApplied_changesStore

theorem execPanelPresent_changesStore (sh : Shuttle) : ChangesStore s (execPanelPresent sh s) := by
  unfold execPanelPresent
  exact applied_steady fun u => by dsimp only; split <;> simp

/-- Whatever the command, the Recipe Store changes in one of four ways: the carried number, a recipe stored, a place emptied, or
every place. -/
theorem exec_changesStore (c : Instr) (s : State) : ChangesStore s (exec c s) := by
  cases c with
  | powerOnReset p => exact applied_changesStore fun u => powerOn_store u p ▸ .clears
  | frameReceived l => exact applied_changesStore fun u => .of_eq (receiveBytes_store l u)
  | frameGapTimeout => exact execFrameGapTimeout_changesStore
  | skipQuietGap => exact execSkipQuietGap_changesStore
  | frameSent => exact execFrameSent_changesStore
  | unknownKind => exact request_changesStore fun _ _ => .refl _
  | getStatus => exact owner_changesStore (unguarded_handsTo _ _) fun _ _ => .refl _
  | configure => exact owner_changesStore (guarded_handsTo _ _) fun l u => .of_eq (handleConfigure_store u l)
  | setCellTag => exact owner_steady (guarded_handsTo _ _) (by simp)
  | setReports => exact owner_changesStore (guarded_handsTo _ _) fun l u => .of_eq (handleSetReports_store u l)
  | ackFlags => exact owner_changesStore (guarded_handsTo _ _) fun l u => .of_eq (handleAckFlags_store u l)
  | loadRecipe => exact owner_changesStore (recipeGuarded_handsTo _ _) fun x u => handleLoadRecipe_change u x
  | dropRecipe => exact owner_changesStore (recipeGuarded_handsTo _ _) fun n u => handleDropRecipe_change u n
  | getRecipe => exact owner_steady (recipeGuarded_handsTo _ _) (by simp)
  | getRecipeDirectory => exact owner_changesStore (recipeGuarded_handsTo _ _) fun _ _ => .refl _
  | setClaim => exact owner_changesStore (guarded_handsTo _ _) fun c u => .of_eq (handleSetClaim_store u c)
  | getClaims => exact owner_changesStore (guarded_handsTo _ _) fun _ _ => .refl _
  | announcePanel => exact owner_changesStore (guardedPresence_handsTo _ _) fun a u => handleAnnounce_change u a
  | withdrawPanel => exact owner_steady (guarded_handsTo _ _) (by simp)
  | getJob => exact owner_changesStore (guarded_handsTo _ _) fun tag u => .of_eq (handleGetJob_store u tag)
  | getJobDirectory => exact owner_changesStore (guarded_handsTo _ _) fun _ _ => .refl _
  | releaseJob => exact owner_steady (guarded_handsTo _ _) (by simp)
  | setTool => exact owner_steady (guarded_handsTo _ _) (by simp)
  | rackBit => exact owner_steady (guarded_handsTo _ _) (by simp)
  | getTool => exact owner_changesStore (guarded_handsTo _ _) fun _ _ => .refl _
  | acceptMagazine => exact owner_steady (guardedPresence_handsTo _ _) (by simp)
  | swapBay => exact owner_steady (guarded_handsTo _ _) (by simp)
  | getBay => exact owner_steady (guarded_handsTo _ _) (by simp)
  | emptyTray => exact owner_steady (guarded_handsTo _ _) (by simp)
  | pause => exact owner_steady (guarded_handsTo _ _) (by simp)
  | resume => exact owner_steady (guarded_handsTo _ _) (by simp)
  | park => exact owner_steady (guarded_handsTo _ _) (by simp)
  | wake => exact owner_steady (unguarded_handsTo _ _) (by simp)
  | resetEnable => exact owner_changesStore (guarded_handsTo _ _) fun _ _ => .refl _
  | cellReset => exact owner_changesStore (guarded_handsTo _ _) fun _ u => .of_eq (handleCellReset_store u _)
  | cellResetTakesEffect => exact execCellResetTakesEffect_changesStore
  | panelPresent sh => exact execPanelPresent_changesStore sh
  | panelRemoved sh => exact applied_steady (f := fun s => panelLeaves sh (setPanelLine sh false s)) (by simp)
  | shuttleAreaRequest sh => exact event_steady (by simp)
  | shuttleInPosition sh req => exact event_steady (by simp)
  | shuttleMoveOutComplete sh req => exact event_steady (by simp)
  | passCompletion req load overrun => exact execPassCompletion_changesStore req load overrun
  | cutWatchExpiry => exact event_steady (by simp)
  | interlockActivation line =>
    exact applied_steady (f := fun s => addStop (interlockCause line) (s.updMode (setInterlock line true))) (by simp)
  | interlockClearing line =>
    exact applied_steady (f := fun s => markCell .interlockClear (s.updMode (setInterlock line false))) (by simp)
  | lineHoldAssertion line => exact event_steady (by simp)
  | lineHoldDeassertion line => exact event_steady (by simp)
  | driveFaultEvent g req => exact execDriveFaultEvent_changesStore g req
  | referencingComplete g req occupied => exact event_steady (by simp)
  | parkComplete g req => exact event_steady (by simp)
  | vacuumMade => exact event_steady (by simp)
  | vacuumLost => exact event_steady (by simp)
  | vacuumWatchExpiry => exact event_steady (by simp)
  | approachComplete req => exact event_steady (by simp)
  | transferComplete req => exact event_steady (by simp)
  | parkWaitComplete req => exact event_steady (by simp)
  | lowerComplete req => exact event_steady (by simp)
  | returnComplete req => exact event_steady (by simp)
  | placeWatchExpiry => exact event_steady (by simp)
  | slotSeated b n => exact event_steady (by simp)
  | trayEntry => exact event_steady (by simp)
  | magazinePresent b => exact event_steady (by simp)
  | magazineRemoved b => exact event_steady (by simp)
  | latchComplete b req => exact event_steady (by simp)
  | changerComplete req => exact execChangerComplete_changesStore req
  | changerFault req => exact event_steady (by simp)
  | changerWatchExpiry => exact event_steady (by simp)

end Sys2Proof.Machine
end

section
/-! The statements about every command (R2, R6), and the reset state. -/

namespace Sys2Proof.Machine

/-- A step leaves the state as it is, no command waiting, or runs the command at the front of the queue. -/
theorem step_cases {s t : State} (h : step s = .next t) :
    (s.pending = [] ∧ t = s) ∨ ∃ c rest, s.pending = c :: rest ∧ exec c { s with pending := rest } = .next t := by
  unfold step at h
  split at h
  · rename_i hp
    cases h
    exact .inl ⟨hp, rfl⟩
  · rename_i c rest hp
    exact .inr ⟨c, rest, hp, h⟩

/-- Settles O3: whatever the command, the store changes in one of four ways, each of which keeps the places in order and the count
of the tab pool exact. -/
theorem stepKeepsStore : Obligations.StepKeepsStore := by
  intro s t ok h
  rw [storeOk_iff] at ok ⊢
  rcases step_cases h with ⟨-, rfl⟩ | ⟨c, rest, -, hc⟩
  · exact ok
  · exact (exec_changesStore c _ t hc).keeps_ok ok

/-- Settles O9: the reset state has no recipe, no frame and no report waiting, no job, no bit and an empty rack; it is HOMING with
no cause, the lines used as strapped. -/
theorem resetMeetsInvariants : Obligations.ResetMeetsInvariants := by
  have hstore : StoreOk State.reset := (storeOk_iff _).mpr ⟨.nil, by simp [State.reset], rfl⟩
  have hqueues : QueuesOk State.reset := ⟨by decide, by decide, by decide⟩
  have hjobs : JobListOk State.reset := ⟨by decide, .nil⟩
  have hwear : WearOk State.reset := ⟨by simp [State.reset, State.resetTool], rfl⟩
  have hrack : RackOk State.reset := ⟨by decide, nofun⟩
  have hlines : LinesOk State.reset.mode := ⟨.inr rfl, .inr rfl⟩
  have hmode : ModeOk State.reset := ⟨nofun, nofun, nofun, fun _ => rfl, fun h => absurd rfl h, hlines⟩
  exact ⟨hstore, hqueues, hjobs, hwear, hrack, hmode⟩

end Sys2Proof.Machine
end

section
/-! SUPPORT. A recipe written as LOAD RECIPE lays it out is read back field by field, and passes the checks when it lies within its
ranges (R3 to R7). -/

namespace Sys2Proof.Machine

/-! ## The raw record of a recipe -/

/-- The code of a channel direction (tab entry layout). -/
def Axis.code : Axis → Nat
  | .x => 0
  | .y => 1

/-- A tab entry as it is received. -/
def TabEntry.raw (t : TabEntry) : RawTab := { tx := t.tx, ty := t.ty, w := t.w, dir := t.dir.code }

/-- A board entry as it is received. -/
def BoardEntry.raw (b : BoardEntry) : RawBoard :=
  { index := b.index, product := b.product, ox := b.ox, oy := b.oy, tabs := b.tabs.map TabEntry.raw }

/-- A recipe as it is received. -/
def Recipe.raw (r : Recipe) : RawRecipe :=
  { number := r.number, pw := r.pw, ph := r.ph, t := r.t, hc := r.hc, f := r.f, o := r.o, b := r.b, zc := r.zc,
    passLimit := r.passLimit, boards := r.boards.map BoardEntry.raw }

theorem Axis.code_le (a : Axis) : a.code ≤ 1 := by cases a <;> decide

theorem TabEntry.entry_raw (t : TabEntry) : t.raw.entry = t := by
  obtain ⟨tx, ty, w, dir⟩ := t
  cases dir <;> rfl

theorem BoardEntry.entry_raw (b : BoardEntry) : b.raw.entry = b := by
  have h : RawTab.entry ∘ TabEntry.raw = id := funext TabEntry.entry_raw
  simp [BoardEntry.raw, RawBoard.entry, h]

/-- The record checked is the recipe itself. -/
theorem Recipe.recipe_raw (r : Recipe) : r.raw.recipe = r := by
  have h : RawBoard.entry ∘ BoardEntry.raw = id := funext BoardEntry.entry_raw
  simp [Recipe.raw, RawRecipe.recipe, h]

/-! ## Reading it back -/

/-- A tab entry's fields fit their bytes. -/
abbrev TabEntry.fitsBytes (t : TabEntry) : Prop := t.tx < 65536 ∧ t.ty < 65536 ∧ t.w < 65536

/-- A board entry's fields fit their bytes. -/
abbrev BoardEntry.fitsBytes (b : BoardEntry) : Prop :=
  b.index < 256 ∧ b.product < 65536 ∧ b.ox < 65536 ∧ b.oy < 65536 ∧ b.tabs.length < 256 ∧ ∀ t ∈ b.tabs, t.fitsBytes

theorem encTabEntry_eq (t : TabEntry) : encTabEntry t = enc2 t.tx ++ enc2 t.ty ++ enc2 t.w ++ enc1 t.dir.code := rfl

theorem rawTabs_encTabEntry (rest : List Byte) (l : List TabEntry) (h : ∀ t ∈ l, t.fitsBytes) :
    rawTabs l.length ((l.map encTabEntry).flatten ++ rest) = some (l.map TabEntry.raw, rest) := by
  induction l with
  | nil => rfl
  | cons t l ih =>
    obtain ⟨hx, hy, hw⟩ := h t List.mem_cons_self
    have hdir : t.dir.code < 256 := by have := t.dir.code_le; omega
    simp only [List.length_cons, rawTabs, List.map_cons, List.flatten_cons, encTabEntry_eq, List.append_assoc,
      byte2_enc2 _ _ hx, byte2_enc2 _ _ hy, byte2_enc2 _ _ hw, byte1_enc1 _ _ hdir,
      ih fun u hu => h u (List.mem_cons_of_mem t hu), Option.bind_eq_bind, Option.bind_some]
    rfl

theorem rawBoards_encBoardEntry (rest : List Byte) (l : List BoardEntry) (h : ∀ b ∈ l, b.fitsBytes) :
    rawBoards l.length ((l.map encBoardEntry).flatten ++ rest) = some (l.map BoardEntry.raw, rest) := by
  induction l with
  | nil => rfl
  | cons b l ih =>
    obtain ⟨hi, hp, hx, hy, hn, ht⟩ := h b List.mem_cons_self
    simp only [List.length_cons, rawBoards, List.map_cons, List.flatten_cons, encBoardEntry, List.append_assoc,
      byte1_enc1 _ _ hi, byte2_enc2 _ _ hp, byte2_enc2 _ _ hx, byte2_enc2 _ _ hy, byte1_enc1 _ _ hn,
      rawTabs_encTabEntry _ _ ht, ih fun c hc => h c (List.mem_cons_of_mem b hc), Option.bind_eq_bind, Option.bind_some]
    rfl

variable {r : Recipe}

/-- The position at which a board of a recipe within its ranges stands. -/
theorem Recipe.inRange.board (h : r.inRange) {i : Nat} (hi : i < r.boards.length) :
    r.boards[i].inRange r.pw r.ph i := by
  obtain ⟨-, -, -, -, -, -, -, -, -, -, -, hboards, -⟩ := h
  exact hboards ⟨i, hi⟩

theorem TabEntry.inRange.fitsBytes {pw ph ox oy : Nat} {t : TabEntry} (h : t.inRange pw ph ox oy) (hw : pw ≤ 35000)
    (hh : ph ≤ 35000) : t.fitsBytes := by
  obtain ⟨hwidth, hx, hy⟩ := h
  exact ⟨by omega, by omega, by omega⟩

theorem BoardEntry.inRange.fitsBytes {pw ph i : Nat} {b : BoardEntry} (h : b.inRange pw ph i) (hw : pw ≤ 35000)
    (hh : ph ≤ 35000) (hi : i < 24) : b.fitsBytes := by
  obtain ⟨hindex, hproduct, hx, hy, hcount, htabs⟩ := h
  exact ⟨by omega, by omega, by omega, by omega, by omega, fun t ht => (htabs t ht).fitsBytes hw hh⟩

theorem Recipe.inRange.boards_fit (h : r.inRange) : ∀ b ∈ r.boards, b.fitsBytes := by
  intro b hmem
  obtain ⟨i, hi, rfl⟩ := List.getElem_of_mem hmem
  have hboard := h.board hi
  obtain ⟨-, hpw, hph, -, -, -, -, -, -, -, hcount, -, -⟩ := h
  exact hboard.fitsBytes hpw.2 hph.2 (by omega)

/-- A field is read, and what is behind it goes on. -/
theorem read_then {α β : Type} {first : Option (α × List Byte)} {next : α × List Byte → Option β} {x : α}
    {rest : List Byte} {y : Option β} (hx : first = some (x, rest)) (hy : next (x, rest) = y) : first >>= next = y := by
  rw [hx]; exact hy

/-- R203: a recipe within its ranges is read back from its bytes, with none left. -/
theorem whole_encRecipe (h : r.inRange) : whole rawRecipe (encRecipe r) = some r.raw := by
  have hboards := rawBoards_encBoardEntry [] r.boards h.boards_fit
  obtain ⟨hnumber, hpw, hph, ht, hhc, hf, ho, hb, hzc, hpass, hcount, -, -⟩ := h
  rw [List.append_nil] at hboards
  apply whole_of
  simp only [rawRecipe, encRecipe, List.append_assoc]
  refine read_then (byte1_enc1 _ r.number (by omega)) ?_
  refine read_then (byte2_enc2 _ r.pw (by omega)) ?_
  refine read_then (byte2_enc2 _ r.ph (by omega)) ?_
  refine read_then (byte2_enc2 _ r.t (by omega)) ?_
  refine read_then (byte2_enc2 _ r.hc (by omega)) ?_
  refine read_then (byte1_enc1 _ r.f (by omega)) ?_
  refine read_then (byte2_enc2 _ r.o (by omega)) ?_
  refine read_then (byte2_enc2 _ r.b (by omega)) ?_
  refine read_then (byte2_enc2 _ r.zc (by omega)) ?_
  refine read_then (byte1_enc1 _ r.passLimit (by omega)) ?_
  refine read_then (byte1_enc1 _ r.boards.length (by omega)) ?_
  exact read_then hboards rfl

/-! ## The checks of R7 -/

theorem checkTabs_raw (x : RawRecipe) (b : RawBoard) (bi : Nat) (l : List TabEntry)
    (h : ∀ t ∈ l, t.inRange x.pw x.ph b.ox b.oy) : ∀ ti, checkTabs x b bi ti (l.map TabEntry.raw) = none := by
  induction l with
  | nil => exact fun _ => rfl
  | cons t l ih =>
    intro ti
    obtain ⟨hw, hx, hy⟩ := h t List.mem_cons_self
    have htab : checkTab x b bi ti t.raw = none := by
      simp [checkTab, firstBad_none_iff, within_iff, TabEntry.raw, t.dir.code_le, hw, hx, hy]
    rw [List.map_cons, checkTabs, htab, Option.none_or, ih fun u hu => h u (List.mem_cons_of_mem t hu)]

theorem checkBoard_raw (x : RawRecipe) (bi sum : Nat) (b : BoardEntry) (h : b.inRange x.pw x.ph bi)
    (hsum : sum + b.tabs.length ≤ 160) : checkBoard x bi sum b.raw = none := by
  obtain ⟨hindex, hproduct, hx, hy, hcount, htabs⟩ := h
  have htab : checkTabs x b.raw bi 0 b.raw.tabs = none := checkTabs_raw x b.raw bi b.tabs htabs 0
  simp only [checkBoard, htab, Option.or_none, firstBad_none_iff]
  simp [within_iff, BoardEntry.raw, Config.recipeTabLimit, hindex, hproduct, hx, hy, hcount, hsum]

theorem checkBoards_raw (x : RawRecipe) (l : List BoardEntry) : ∀ bi sum,
    (∀ (i : Nat) (hi : i < l.length), l[i].inRange x.pw x.ph (bi + i)) →
    sum + total (l.map fun b => b.tabs.length) ≤ 160 → checkBoards x bi sum (l.map BoardEntry.raw) = none := by
  induction l with
  | nil => exact fun _ _ _ _ => rfl
  | cons b l ih =>
    intro bi sum h hsum
    rw [List.map_cons, total_cons] at hsum
    have hlen : b.raw.tabs.length = b.tabs.length := List.length_map _
    rw [List.map_cons, checkBoards, checkBoard_raw x bi sum b (h 0 (Nat.zero_lt_succ _)) (by omega), Option.none_or, hlen]
    refine ih (bi + 1) (sum + b.tabs.length) (fun i hi => ?_) (by omega)
    have hnext := h (i + 1) (Nat.succ_lt_succ hi)
    rwa [Nat.add_right_comm bi 1 i]

/-- R7, steps 2 to 5: a recipe within its ranges passes the checks. -/
theorem checkRecipe_raw (h : r.inRange) : checkRecipe r.raw = none := by
  have hboards := checkBoards_raw r.raw r.boards 0 0 (fun i hi => by rw [Nat.zero_add]; exact h.board hi)
  obtain ⟨hnumber, hpw, hph, ht, hhc, hf, ho, hb, hzc, hpass, hcount, -, htabs⟩ := h
  have hheader : checkHeader r.raw = none := by
    simp [checkHeader, firstBad_none_iff, within_iff, Recipe.raw, hpw, hph, ht, hhc, hf, ho, hb, hzc, hpass, hcount]
  have hplace : firstBad [(within 1 Config.recipePlaces r.raw.number, field 1)] = none := by
    simp [firstBad_none_iff, within_iff, Recipe.raw, Config.recipePlaces, hnumber]
  rw [checkRecipe, hplace, hheader, Option.none_or, Option.none_or]
  exact hboards (by rw [Nat.zero_add]; exact htabs)

end Sys2Proof.Machine
end

section
/-! The recipe requests (R6 to R12): their owners, case by case, and the replies. -/

namespace Sys2Proof.Machine

variable {s : State} {f : Frame} {rest : List Frame} {n : Nat} {r : Recipe}

/-! ## Replies of the recipe requests -/

section
variable {c : Instr} {names : Frame → Bool} {α : Type} {read : Reader α} {owner : α → State → Handled} {k : Byte}
  {p : List Byte} {x : α} {body : ReplyBody}

/-- R203, R6: in PARKED a recipe request is refused with the free count, and nothing changes. -/
theorem recipe_answers_parked (hx : exec c s = request names (recipeGuarded read owner) s) (ha : Asks s f rest k p)
    (hn : names f = true) (hm : s.mode.mode = .parked) :
    Answers c s f (.refusedFree .parked s.store.free) (takeFrame rest s) [] [] :=
  answers_plain (hx.trans (request_answers ha.1 hn (recipeGuarded_parked hm))) rfl rfl rfl rfl rfl rfl rfl rfl rfl

/-- R6: outside PARKED a recipe request that reads whole is answered as its owner gives it, the free count in the reply; the owner
may change the store. -/
theorem recipe_answers_store {g : Store → Store} (hx : exec c s = request names (recipeGuarded read owner) s)
    (ha : Asks s f rest k p) (hn : names f = true) (hm : s.mode.mode ≠ .parked) (hp : whole read p = some x)
    (ho : owner x (takeFrame rest (beginStep s)) =
      { state := (takeFrame rest (beginStep s)).updStore g, body := body }) :
    Answers c s f (body.withFree (g s.store).free) ((takeFrame rest s).updStore g) [] [] := by
  have hread : recipeGuarded read owner f (takeFrame rest (beginStep s)) = _ :=
    recipeGuarded_read hm (ha.2.2.symm ▸ hp)
  rw [ho] at hread
  exact answers_plain (hx.trans (request_answers ha.1 hn hread)) rfl rfl rfl rfl rfl rfl rfl rfl rfl

/-- R6: as above, for an owner that changes nothing. -/
theorem recipe_answers (hx : exec c s = request names (recipeGuarded read owner) s) (ha : Asks s f rest k p)
    (hn : names f = true) (hm : s.mode.mode ≠ .parked) (hp : whole read p = some x)
    (ho : owner x (takeFrame rest (beginStep s)) = { state := takeFrame rest (beginStep s), body := body }) :
    Answers c s f (body.withFree s.store.free) (takeFrame rest s) [] [] :=
  recipe_answers_store (g := id) hx ha hn hm hp ho

end

/-! ## LOAD RECIPE (R7, R8) -/

theorem exec_loadRecipe : exec .loadRecipe s = request (ofKind 0x10#8) (recipeGuarded rawRecipe handleLoadRecipe) s := rfl

theorem handleLoadRecipe_inUse (h : r.inRange) (hu : s.recipeInUse r.number = true) :
    handleLoadRecipe r.raw s = refuse .inUse s := by
  simp [handleLoadRecipe, checkRecipe_raw h, r.recipe_raw, hu]

theorem handleLoadRecipe_full (h : r.inRange) (hu : s.recipeInUse r.number = false)
    (hroom : s.store.room r.number < r.tabs) :
    handleLoadRecipe r.raw s = { state := s, body := .fullRoom r.tabs (s.store.room r.number) s.store.free } := by
  simp [handleLoadRecipe, checkRecipe_raw h, r.recipe_raw, hu, hroom]

theorem handleLoadRecipe_stores (h : r.inRange) (hu : s.recipeInUse r.number = false)
    (hroom : r.tabs ≤ s.store.room r.number) :
    handleLoadRecipe r.raw s =
      { state := s.updStore fun st => st.put r, body := .ok (.freeCount (s.store.room r.number - r.tabs)) } := by
  simp [handleLoadRecipe, checkRecipe_raw h, r.recipe_raw, hu, Nat.not_lt.mpr hroom, accept, Store.put]

/-- Settles O23: the payload reads back as the recipe, which passes the checks; the owner's three cases remain. -/
theorem recipeLoadedWhole : Obligations.RecipeLoadedWhole := by
  intro s f rest r ha hr hm ok
  have hn := Asks.ofKind ha
  have hp := whole_encRecipe hr
  have hasc : Ascending s.store.recipes := ((storeOk_iff s).mp ok).ascending
  refine ⟨fun hu => ?_, fun hu hroom => ?_, fun hu hroom => ⟨insertRecipe r s.store.recipes, fun x => mem_insertRecipe hasc, ?_⟩⟩
  · exact recipe_answers exec_loadRecipe ha hn hm hp (handleLoadRecipe_inUse hr hu)
  · exact recipe_answers exec_loadRecipe ha hn hm hp (handleLoadRecipe_full hr hu hroom)
  · exact recipe_answers_store exec_loadRecipe ha hn hm hp (handleLoadRecipe_stores hr hu hroom)

/-! ## DROP RECIPE (R10) -/

theorem exec_dropRecipe : exec .dropRecipe s = request (ofKind 0x11#8) (recipeGuarded byte1 handleDropRecipe) s := rfl

theorem whole_byte1 (b : Byte) : whole byte1 [b] = some b.toNat := rfl

theorem handleDropRecipe_badField (h : ¬ (1 ≤ n ∧ n ≤ 32)) : handleDropRecipe n s = refuseField (field 1) s := by
  have hw : within 1 Config.recipePlaces n = false := by rw [← Bool.not_eq_true, within_iff]; exact h
  simp [handleDropRecipe, hw]

theorem handleDropRecipe_notFound (hlo : 1 ≤ n) (hhi : n ≤ 32) (hf : s.store.find n = none) :
    handleDropRecipe n s = refuse .notFound s := by
  simp [handleDropRecipe, within, Config.recipePlaces, hlo, hhi, hf]

theorem handleDropRecipe_inUse (hlo : 1 ≤ n) (hhi : n ≤ 32) (hf : s.store.find n = some r) (hl : s.liveJobs n ≠ 0) :
    handleDropRecipe n s = refuse .inUse s := by
  simp [handleDropRecipe, within, Config.recipePlaces, State.recipeInUse, hlo, hhi, hf, hl]

theorem handleDropRecipe_drops (hlo : 1 ≤ n) (hhi : n ≤ 32) (hf : s.store.find n = some r) (hl : s.liveJobs n = 0) :
    handleDropRecipe n s =
      { state := s.updStore fun st =>
          { st with recipes := st.recipes.filter fun x => x.number ≠ n, free := s.store.free + r.tabs }
        body := .ok (.freeCount (s.store.free + r.tabs)) } := by
  have hheld : s.store.held n = r.tabs := Store.held_of_find hf
  have hfilter : (fun x : Recipe => x.number != n) = fun x => decide (x.number ≠ n) :=
    funext fun x => Bool.eq_iff_iff.mpr (by simp)
  simp only [handleDropRecipe, within, Config.recipePlaces, State.recipeInUse, hlo, hhi, hf, hl]
  simp [accept, State.updStore, Store.drop, hheld, hfilter]

/-- Settles O24: the tests of R10 in their order, and the emptied place. -/
theorem recipeDropped : Obligations.RecipeDropped := by
  intro s f rest n ha
  have hn := Asks.ofKind ha
  have hp := whole_byte1 n
  refine ⟨fun hm => ?_, fun hm hrange => ?_, fun hm hlo hhi hempty => ?_, fun r hm hlo hhi hf => ⟨fun hl => ?_, fun hl => ?_⟩⟩
  · exact recipe_answers_parked exec_dropRecipe ha hn hm
  · exact recipe_answers exec_dropRecipe ha hn hm hp (handleDropRecipe_badField hrange)
  · exact recipe_answers exec_dropRecipe ha hn hm hp
      (handleDropRecipe_notFound hlo hhi ((Store.find_none_iff s.store n.toNat).mpr hempty))
  · exact recipe_answers exec_dropRecipe ha hn hm hp (handleDropRecipe_inUse hlo hhi hf hl)
  · exact recipe_answers_store exec_dropRecipe ha hn hm hp (handleDropRecipe_drops hlo hhi hf hl)

/-! ## GET RECIPE (R11, R12) -/

theorem exec_getRecipe :
    exec .getRecipe s =
      request (fun f => ofKind 0x12#8 f && !asksRecipeDirectory f) (recipeGuarded byte1 handleGetRecipe) s := rfl

theorem exec_getRecipeDirectory :
    exec .getRecipeDirectory s =
      request (fun f => ofKind 0x12#8 f && asksRecipeDirectory f)
        (recipeGuarded byte1 fun _ => handleRecipeDirectory) s := rfl

/-- R12: a GET RECIPE frame asks for the directory exactly when its number is 0. -/
theorem asksRecipeDirectory_eq {b : Byte} (hp : f.payload = [b]) : asksRecipeDirectory f = decide (b.toNat = 0) := by
  have hz : b = 0#8 ↔ b.toNat = 0 := BitVec.toNat_inj.symm
  rw [Bool.eq_iff_iff, decide_eq_true_iff, ← hz]
  simp [asksRecipeDirectory, hp]

theorem handleGetRecipe_found (h : n ≤ 32) (hf : s.store.find n = some r) :
    handleGetRecipe n s = accept (.recipe r s.store.free s.store.carried (s.liveJobs n)) s := by
  simp [handleGetRecipe, within, Config.recipePlaces, h, hf]

theorem handleGetRecipe_notFound (h : n ≤ 32) (hf : s.store.find n = none) :
    handleGetRecipe n s = refuse .notFound s := by
  simp [handleGetRecipe, within, Config.recipePlaces, h, hf]

theorem handleGetRecipe_badField (h : 32 < n) : handleGetRecipe n s = refuseField (field 1) s := by
  simp [handleGetRecipe, within, Config.recipePlaces, Nat.not_le.mpr h]

/-- R12, R6: the directory lists the places in ascending number, and its tab totals and the free count add to 2048. -/
theorem recipeLines_ok (ok : StoreOk s) :
    ((s.store.recipes.map (recipeLine s)).map (·.number)).Pairwise (· < ·) ∧
      total ((s.store.recipes.map (recipeLine s)).map (·.tabs)) + s.store.free = 2048 := by
  obtain ⟨hasc, -, hpool⟩ := (storeOk_iff s).mp ok
  rw [List.map_map, List.map_map]
  exact ⟨List.pairwise_map.mpr hasc, by rw [Nat.add_comm]; exact hpool⟩

/-- Settles O25: a number asks for one recipe or, being 0, for the directory; no case changes the state. -/
theorem recipesRead : Obligations.RecipesRead := by
  intro s f rest n ha
  have hkind := Asks.ofKind ha
  have hdir := asksRecipeDirectory_eq ha.2.2
  have hone : n.toNat ≠ 0 → (ofKind 0x12#8 f && !asksRecipeDirectory f) = true := fun h => by simp [hkind, hdir, h]
  have hall : n.toNat = 0 → (ofKind 0x12#8 f && asksRecipeDirectory f) = true := fun h => by simp [hkind, hdir, h]
  have hp := whole_byte1 n
  refine ⟨fun hm => ?_, fun hm => ⟨fun r h0 hhi hf => ?_, fun h0 hhi hempty => ?_, fun hbig => ?_, fun h0 => ?_⟩⟩
  · split
    · rename_i h0
      exact recipe_answers_parked exec_getRecipeDirectory ha (hall h0) hm
    · rename_i h0
      exact recipe_answers_parked exec_getRecipe ha (hone h0) hm
  · exact recipe_answers exec_getRecipe ha (hone h0) hm hp (handleGetRecipe_found hhi hf)
  · exact recipe_answers exec_getRecipe ha (hone h0) hm hp
      (handleGetRecipe_notFound hhi ((Store.find_none_iff s.store n.toNat).mpr hempty))
  · exact recipe_answers exec_getRecipe ha (hone (by omega)) hm hp (handleGetRecipe_badField hbig)
  · refine ⟨s.store.recipes.map (recipeLine s), ?_, ?_, ?_, ?_, recipeLines_ok, ?_⟩
    iterate 4 simp [recipeLine, Function.comp_def]
    exact recipe_answers exec_getRecipeDirectory ha (hall h0) hm hp rfl

end Sys2Proof.Machine
end

section
/-! SUPPORT. The Shuttle Controller's records (R43), the events of a listed job (R20), the abandonment of its boards (R35), and the
effect of a step that queues reports of jobs only. -/

namespace Sys2Proof.Machine

/-! ## The shuttles' records -/

section
variable (c : ShuttleCtl) (sh sh' : Shuttle) (r r' : ShuttleRec) (v w : Bool)

@[simp] theorem ShuttleCtl.get_set : (c.set sh r).get sh = r := by cases sh <;> rfl
@[simp] theorem ShuttleCtl.set_set : (c.set sh r).set sh r' = c.set sh r' := by cases sh <;> rfl
@[simp] theorem ShuttleCtl.set_holder : (c.set sh r).holder = c.holder := by cases sh <;> rfl
@[simp] theorem ShuttleCtl.set_waits : (c.set sh r).waits sh' = c.waits sh' := by cases sh <;> cases sh' <;> rfl
@[simp] theorem ShuttleCtl.setWait_get : (c.setWait sh v).get sh' = c.get sh' := by cases sh <;> cases sh' <;> rfl
@[simp] theorem ShuttleCtl.setWait_holder : (c.setWait sh v).holder = c.holder := by cases sh <;> rfl
@[simp] theorem ShuttleCtl.setWait_waits : (c.setWait sh v).waits sh = v := by cases sh <;> rfl
@[simp] theorem ShuttleCtl.setWait_setWait : (c.setWait sh v).setWait sh w = c.setWait sh w := by cases sh <;> rfl

/-- The other shuttle's place in the waiting set stands. -/
theorem ShuttleCtl.setWait_waits_other (h : sh' ≠ sh) : (c.setWait sh v).waits sh' = c.waits sh' := by
  cases sh <;> cases sh' <;> simp_all [ShuttleCtl.setWait, ShuttleCtl.waits]

/-- The waiting set and the records of the shuttles are apart. -/
theorem ShuttleCtl.set_setWait : (c.set sh r).setWait sh' v = (c.setWait sh' v).set sh r := by
  cases sh <;> cases sh' <;> rfl

/-- A shuttle that does not wait leaves the waiting set without a change. -/
theorem ShuttleCtl.setWait_self (h : c.waits sh = v) : c.setWait sh v = c := by
  subst h; cases sh <;> rfl

@[simp] theorem ShuttleCtl.get_holder (o : Option Shuttle) : { c with holder := o }.get sh = c.get sh := by cases sh <;> rfl

/-- R50: the shuttle leaves the waiting set and holds the cut area, MOVING IN by a request. -/
def ShuttleCtl.granted (sh : Shuttle) (req : ReqNo) (c : ShuttleCtl) : ShuttleCtl :=
  { (c.setWait sh false).set sh { c.get sh with state := .movingIn, moveReq := some req } with holder := some sh }

@[simp] theorem ShuttleCtl.granted_get (req : ReqNo) :
    (c.granted sh req).get sh = { c.get sh with state := .movingIn, moveReq := some req } := by
  simp [ShuttleCtl.granted]

/-- The controller's records as `grantArea` changes them. -/
theorem ShuttleCtl.granted_eq (req : ReqNo) :
    (let c := { c.setWait sh false with holder := some sh }
     c.set sh { c.get sh with state := .movingIn, moveReq := some req }) = c.granted sh req := by
  cases sh <;> rfl

/-- R47, R50: of a grant that follows the request at once the waiting set keeps no trace. -/
theorem ShuttleCtl.granted_of_asked (h : c.waits sh = false) (req : ReqNo) :
    ((c.set sh { c.get sh with state := .waitingArea }).setWait sh true).granted sh req =
      { c.set sh { c.get sh with state := .movingIn, moveReq := some req } with holder := some sh } := by
  simp [ShuttleCtl.granted, ShuttleCtl.set_setWait, ShuttleCtl.setWait_self _ _ _ h]

end

section
variable (s : State) (sh : Shuttle) (f g : ShuttleRec → ShuttleRec)

@[simp] theorem updShuttle_shuttle : (s.updShuttle sh f).shuttle sh = f (s.shuttle sh) := by
  simp [State.shuttle, State.updShuttle_shut]

@[simp] theorem setPanelLine_shuttle (level : Bool) :
    (setPanelLine sh level s).shuttle sh = { s.shuttle sh with panelLine := level } := updShuttle_shuttle s sh _

theorem updShuttle_updShuttle : (s.updShuttle sh f).updShuttle sh g = s.updShuttle sh (g ∘ f) := by
  simp [State.updShuttle, State.updShut]

/-- A shuttle's record changes as it joins or leaves the waiting set. -/
theorem updShut_setWait_set (v : Bool) :
    (s.updShut fun c => (c.setWait sh v).set sh (f ((c.setWait sh v).get sh))) =
      (s.updShuttle sh f).updShut fun c => c.setWait sh v := by
  simp [State.updShuttle, State.updShut, ShuttleCtl.set_setWait]

end

/-! ## Events of a listed job -/

variable {s : State} {before after : List Job} {j k : Job}

/-- A job replaced at its place by one of its tag is listed there. -/
theorem Lists.replaced (h : Lists s before j after) (hk : k.tag = j.tag) :
    Lists (s.updJobs fun _ => before ++ k :: after) before k after := by
  obtain ⟨-, hbefore, hafter⟩ := h
  exact ⟨rfl, by rwa [hk], by rwa [hk]⟩

/-- Queuing a report leaves the list alone. -/
theorem Lists.queued (h : Lists s before j after) (r : Report) : Lists (queueReport r s) before j after :=
  ⟨(queueReport_jobs s r).trans h.1, h.2⟩

@[simp] theorem enterJobState_tag (st : JobState) (j : Job) : (enterJobState st j).tag = j.tag := by
  unfold enterJobState; dsimp only; split <;> rfl

/-- R20, R40: an event that the table lists for the job's state changes the job at its place and queues its JOB STATE. -/
theorem jobEvent_listed (h : Lists s before j after) {e : JobEvent} {st : JobState} (he : jobNext j.state e = some st)
    {f : Job → Job} (hf : (f j).tag = j.tag) :
    jobEvent j.tag e f s =
      queueReport (.jobState (jobReportOf (enterJobState st (f j)) .none))
        (s.updJobs fun _ => before ++ enterJobState st (f j) :: after) := by
  have hk : (enterJobState st (f j)).tag = j.tag := (enterJobState_tag _ _).trans hf
  have hjob := (h.replaced hk).job?
  rw [hk] at hjob
  simp only [jobEvent, h.job?, he, h.updJob, reportJob, hjob]

/-! ## The abandonment of a job's boards (R35) -/

@[simp] theorem startMotion_jobs (k : MotionKind) : (startMotion k s).jobs = s.jobs := by
  unfold startMotion; split <;> simp
@[simp] theorem startMotion_shut (k : MotionKind) : (startMotion k s).shut = s.shut := by
  unfold startMotion; split <;> simp
@[simp] theorem releaseAbandoned_jobs (ref : BoardRef) : (releaseAbandoned ref s).jobs = s.jobs := by
  unfold releaseAbandoned; split <;> simp [returnEmpty]
@[simp] theorem releaseAbandoned_shut (ref : BoardRef) : (releaseAbandoned ref s).shut = s.shut := by
  unfold releaseAbandoned; split <;> simp [returnEmpty]
@[simp] theorem leaveHoldList_jobs (tag i : Nat) : (leaveHoldList tag i s).jobs = s.jobs := rfl
@[simp] theorem leaveHoldList_shut (tag i : Nat) : (leaveHoldList tag i s).shut = s.shut := rfl
@[simp] theorem leaveCurrent_jobs (tag i : Nat) : (leaveCurrent tag i s).jobs = s.jobs := rfl
@[simp] theorem leaveCurrent_shut (tag i : Nat) : (leaveCurrent tag i s).shut = s.shut := rfl
@[simp] theorem reportBoard_jobs (tag i : Nat) : (reportBoard tag i s).jobs = s.jobs := by
  unfold reportBoard; split <;> simp
@[simp] theorem reportBoard_shut (tag i : Nat) : (reportBoard tag i s).shut = s.shut := by
  unfold reportBoard; split <;> simp

/-- R35, step 2: a board that R23 does not let be abandoned is left alone. -/
theorem abandonBoard_none {tag i : Nat} (h : (s.boardState tag i).bind (boardNext · .abandoned) = none) :
    abandonBoard tag i s = s := by simp [abandonBoard, moveBoard, h]

/-- R35, step 2: a board that R23 lets be abandoned enters ABANDONED; the list changes in nothing else. -/
theorem abandonBoard_jobs {tag i : Nat} (h : (s.boardState tag i).bind (boardNext · .abandoned) = some .abandoned) :
    (abandonBoard tag i s).jobs = (s.updBoard tag i (enterBoardState .abandoned)).jobs := by
  simp [abandonBoard, moveBoard, h, BoardState.final]

/-- An abandonment does not touch the shuttles. -/
@[simp] theorem abandonBoard_shut (tag i : Nat) : (abandonBoard tag i s).shut = s.shut := by
  cases h : (s.boardState tag i).bind (boardNext · .abandoned) with
  | none => rw [abandonBoard_none h]
  | some st =>
    simp only [abandonBoard, moveBoard, h]
    split <;> simp

/-- The job with its boards of some indices abandoned. -/
def Job.abandonedAt (j : Job) (done : List Nat) : Job :=
  { j with boards := j.boards.map fun b => if b.index ∈ done then enterBoardState .abandoned b else b }

theorem Job.abandonedAt_nil (j : Job) : j.abandonedAt [] = j := by simp [Job.abandonedAt]

/-- An index already abandoned, or that no board has, changes nothing more. -/
theorem Job.abandonedAt_cons_of_idle {done : List Nat} {i : Nat} (h : i ∈ done ∨ ∀ b ∈ j.boards, b.index ≠ i) :
    j.abandonedAt (i :: done) = j.abandonedAt done := by
  have hmem : ∀ b ∈ j.boards, (b.index ∈ i :: done ↔ b.index ∈ done) := by
    intro b hb
    rcases h with h | h
    · exact ⟨fun hi => (List.mem_cons.mp hi).elim (· ▸ h) id, List.mem_cons_of_mem _⟩
    · simp [h b hb]
  have hboards : (j.abandonedAt (i :: done)).boards = (j.abandonedAt done).boards :=
    List.map_congr_left fun b hb => by simp only [hmem b hb]
  exact congrArg (fun l => { j with boards := l }) hboards

/-- The boards of an index not yet abandoned are abandoned next. -/
theorem Job.abandonedAt_cons_of_fresh {done : List Nat} {i : Nat} (h : i ∉ done) :
    { j.abandonedAt done with
      boards := (j.abandonedAt done).boards.map fun b => if b.index == i then enterBoardState .abandoned b else b } =
      j.abandonedAt (i :: done) := by
  unfold Job.abandonedAt
  simp only [List.map_map]
  congr 1
  apply List.map_congr_left
  intro b _
  by_cases hi : b.index = i
  · simp [hi, h]
  · by_cases hd : b.index ∈ done <;> simp [hi, hd]

/-- A board of the job with some indices abandoned. -/
theorem Job.abandonedAt_board? (j : Job) (done : List Nat) (i : Nat) :
    (j.abandonedAt done).board? i =
      (j.board? i).map fun b => if b.index ∈ done then enterBoardState .abandoned b else b := by
  unfold Job.board? Job.abandonedAt
  rw [List.find?_map]
  congr 2
  funext b
  simp only [Function.comp]
  split <;> simp

/-- R35, step 2: of a job whose boards were all WAITING, one index more is abandoned. -/
theorem abandonBoard_lists {done : List Nat} (h : Lists s before (j.abandonedAt done) after)
    (hw : ∀ b ∈ j.boards, b.state = .waiting) (i : Nat) :
    Lists (abandonBoard j.tag i s) before (j.abandonedAt (i :: done)) after := by
  have hstate : s.boardState j.tag i = ((j.abandonedAt done).board? i).map (·.state) := by
    simp only [State.boardState, State.board?, show s.job? j.tag = _ from h.job?, Option.bind_some]
  rw [Job.abandonedAt_board?] at hstate
  cases hb : j.board? i with
  | none =>
    have hno : ∀ b ∈ j.boards, b.index ≠ i := by simpa [Job.board?] using hb
    rw [abandonBoard_none (by simp [hstate, hb]), Job.abandonedAt_cons_of_idle (.inr hno)]
    exact h
  | some b =>
    have hi : b.index = i := by simpa using List.find?_some hb
    have hwait : b.state = .waiting := hw b (List.mem_of_find?_eq_some hb)
    by_cases hd : i ∈ done
    · rw [abandonBoard_none (by simp [hstate, hb, hi, hd, boardNext]), Job.abandonedAt_cons_of_idle (.inl hd)]
      exact h
    · have hjobs := abandonBoard_jobs (s := s) (tag := j.tag) (i := i) (by simp [hstate, hb, hi, hd, hwait, boardNext])
      have hupd : s.updBoard j.tag i (enterBoardState .abandoned) = _ := h.updJob _
      rw [hupd, Job.abandonedAt_cons_of_fresh hd] at hjobs
      exact ⟨hjobs, h.2⟩

/-- R35, step 2: of a job whose boards were all WAITING, the indices of a list are abandoned one by one; the shuttles stand. -/
theorem foldl_abandonBoard_lists (hw : ∀ b ∈ j.boards, b.state = .waiting) (l : List Nat) :
    ∀ (done : List Nat) (s : State), Lists s before (j.abandonedAt done) after →
      ∃ all, (∀ i ∈ l, i ∈ all) ∧ done ⊆ all ∧
        Lists (l.foldl (fun s i => abandonBoard j.tag i s) s) before (j.abandonedAt all) after ∧
        (l.foldl (fun s i => abandonBoard j.tag i s) s).shut = s.shut := by
  induction l with
  | nil => exact fun done s h => ⟨done, by simp, List.Subset.refl _, h, rfl⟩
  | cons i l ih =>
    intro done s h
    obtain ⟨all, hall, hdone, hlists, hshut⟩ := ih (i :: done) _ (abandonBoard_lists h hw i)
    obtain ⟨hi, hdone⟩ := List.cons_subset.mp hdone
    exact ⟨all, List.forall_mem_cons.mpr ⟨hi, hall⟩, hdone, hlists, hshut.trans (abandonBoard_shut _ _)⟩

/-- R35, step 2: a job whose boards were all WAITING has all of them ABANDONED, at its place in the list; the shuttles stand. -/
theorem abandonBoards_lists (h : Lists s before j after) (hw : ∀ b ∈ j.boards, b.state = .waiting) :
    ∃ done, Lists (abandonBoards j.tag s) before (j.abandonedAt done) after ∧
      (∀ b ∈ (j.abandonedAt done).boards, b.state = .abandoned) ∧ (abandonBoards j.tag s).shut = s.shut := by
  obtain ⟨all, hall, -, hlists, hshut⟩ :=
    foldl_abandonBoard_lists hw (j.boards.map (·.index)) [] s (j.abandonedAt_nil.symm ▸ h)
  refine ⟨all, by simpa only [abandonBoards, h.job?] using hlists, fun b hb => ?_, ?_⟩
  · obtain ⟨x, hx, rfl⟩ := List.mem_map.mp hb
    simp [hall x.index (List.mem_map_of_mem hx)]
  · simpa only [abandonBoards, h.job?] using hshut

/-! ## Steps that queue reports of jobs only -/

/-- An event whose work makes `target` of a state but for the outgoing side, queues the JOB STATE reports `l` and sends the messages
`sent`, has that effect. -/
theorem effect_jobReports {c : Instr} {f : State → State} {target : State} {l : List JobReport} {sent : List DriveMsg}
    (hx : exec c s = applied f s)
    (hw : f (beginStep s) = queueReports (l.map .jobState) { target with out := { emptyOutput with sent := sent } })
    (hlink : target.link = s.link) : Effect c s target (l.map .jobState) sent := by
  unfold applied at hx
  rw [hw] at hx
  refine effect_of hx rfl rfl ?_ rfl rfl ?_ ?_ ?_ ?_ ?_
  · simp [cellDue, emptyOutput, settleReport]
  all_goals simp [hlink]

end Sys2Proof.Machine
end

section
/-! The events of the Shuttle Controller (R44 to R53): panels at the load window and the request for the cut area. -/

namespace Sys2Proof.Machine

variable {s : State} {sh : Shuttle} {before after : List Job} {j : Job}

/-! ## A panel arrives (R44, R45) -/

theorem exec_panelPresent :
    exec (.panelPresent sh) s =
      applied (fun s =>
        let s := setPanelLine sh true s
        if (s.shuttle sh).state = .vacant then panelArrives sh s else s) s := rfl

/-- R44: on a shuttle that is not VACANT the line's level is followed and nothing else. -/
theorem panelPresent_occupied (h : (s.shuttle sh).state ≠ .vacant) :
    Effect (.panelPresent sh) s (s.updShuttle sh fun _ => { s.shuttle sh with panelLine := true }) [] [] := by
  have hb : ((beginStep s).shuttle sh).state ≠ .vacant := h
  refine effect_jobReports (l := []) exec_panelPresent ?_ rfl
  simp only [setPanelLine_shuttle, hb, if_false]
  rfl

/-- R45: no job is for the shuttle where none ANNOUNCED allows it. -/
theorem jobForShuttle_none {jobs : List Job} (h : ∀ j ∈ jobs, ¬ (j.state = .announced ∧ j.pref.allows sh = true)) :
    jobForShuttle sh jobs = none := by
  simpa [jobForShuttle] using h

/-- R45: the job for the shuttle is the first ANNOUNCED one that allows it. -/
theorem jobForShuttle_first (hj : j.state = .announced) (hp : j.pref.allows sh = true)
    (h : ∀ k ∈ before, ¬ (k.state = .announced ∧ k.pref.allows sh = true)) :
    jobForShuttle sh (before ++ j :: after) = some j := by
  have hnone := jobForShuttle_none h
  unfold jobForShuttle at hnone ⊢
  simp [List.find?_append, hnone, hj, hp]

/-- R45: a panel for which no job is listed makes the shuttle UNBOUND, last in the seated order. -/
theorem panelPresent_unbound (h : (s.shuttle sh).state = .vacant)
    (hno : ∀ j ∈ s.jobs, ¬ (j.state = .announced ∧ j.pref.allows sh = true)) :
    Effect (.panelPresent sh) s
      ((s.updShuttle sh fun _ => { s.shuttle sh with panelLine := true, state := .unbound }).updShut fun c =>
        { c with seated := c.seated ++ [sh] }) [] [] := by
  have hb : ((beginStep s).shuttle sh).state = .vacant := h
  have hjob : jobForShuttle sh (setPanelLine sh true (beginStep s)).jobs = none := jobForShuttle_none hno
  refine effect_jobReports (l := []) exec_panelPresent ?_ rfl
  simp only [setPanelLine_shuttle, hb, if_true, panelArrives, hjob]
  cases sh <;> rfl

/-- R45: an ANNOUNCED job and the shuttle are bound, both SEATED. -/
theorem bindJob_listed (h : Lists s before j after) (hj : j.state = .announced) :
    bindJob sh j.tag s =
      queueReport (.jobState (jobReportOf { j with state := .seated, bound := some sh } .none))
        ((s.updShuttle sh fun r => { r with state := .seated, bound := j.tag }).updJobs fun _ =>
          before ++ { j with state := .seated, bound := some sh } :: after) :=
  jobEvent_listed (s := s.updShuttle sh _) h (e := .bound) (st := .seated) (by rw [hj]; rfl) rfl

/-- R45: a panel is bound to the oldest ANNOUNCED job that allows the shuttle. -/
theorem panelPresent_bound (h : (s.shuttle sh).state = .vacant) (hl : Lists s before j after) (hj : j.state = .announced)
    (hp : j.pref.allows sh = true) (hfirst : ∀ k ∈ before, ¬ (k.state = .announced ∧ k.pref.allows sh = true)) :
    Effect (.panelPresent sh) s
      ((s.updShuttle sh fun r => { r with state := .seated, bound := j.tag, panelLine := true }).updJobs fun _ =>
        before ++ { j with state := .seated, bound := some sh } :: after)
      [.jobState (jobReportOf { j with state := .seated, bound := some sh } .none)] [] := by
  have hb : ((beginStep s).shuttle sh).state = .vacant := h
  have hjob : jobForShuttle sh (setPanelLine sh true (beginStep s)).jobs = some j :=
    (congrArg (jobForShuttle sh) hl.1).trans (jobForShuttle_first hj hp hfirst)
  have hbind := bindJob_listed (s := setPanelLine sh true (beginStep s)) (sh := sh) hl hj
  refine effect_jobReports (l := [_]) exec_panelPresent ?_ rfl
  simp only [setPanelLine_shuttle, hb, if_true, panelArrives, hjob, hbind]
  rw [setPanelLine, updShuttle_updShuttle]
  rfl

/-! ## A panel is taken off (R44, R53) -/

theorem exec_panelRemoved :
    exec (.panelRemoved sh) s = applied (fun s => panelLeaves sh (setPanelLine sh false s)) s := rfl

/-- R44: a panel taken off an UNBOUND shuttle leaves it VACANT and out of the seated order. -/
theorem panelRemoved_unbound (h : (s.shuttle sh).state = .unbound) :
    Effect (.panelRemoved sh) s
      ((s.updShuttle sh fun _ => { s.shuttle sh with panelLine := false, state := .vacant }).updShut fun c =>
        { c with seated := c.seated.filter (· != sh) }) [] [] := by
  have hb : ((beginStep s).shuttle sh).state = .unbound := h
  refine effect_jobReports (l := []) exec_panelRemoved ?_ rfl
  simp only [panelLeaves, setPanelLine_shuttle, hb]
  cases sh <;> rfl

/-- R44: a frame taken off a shuttle AT WINDOW leaves it VACANT and bound to no job. -/
theorem panelRemoved_atWindow (h : (s.shuttle sh).state = .atWindow) :
    Effect (.panelRemoved sh) s
      (s.updShuttle sh fun _ => { s.shuttle sh with panelLine := false, state := .vacant, bound := 0 }) [] [] := by
  have hb : ((beginStep s).shuttle sh).state = .atWindow := h
  refine effect_jobReports (l := []) exec_panelRemoved ?_ rfl
  simp only [panelLeaves, setPanelLine_shuttle, hb]
  rw [setPanelLine, updShuttle_updShuttle]
  rfl

/-- R44: on a VACANT shuttle, and away from the window, the line's level is followed and nothing else. -/
theorem panelRemoved_elsewhere
    (h : (s.shuttle sh).state = .vacant ∨ (s.shuttle sh).state = .movingIn ∨ (s.shuttle sh).state = .atCut ∨
      (s.shuttle sh).state = .movingOut) :
    Effect (.panelRemoved sh) s (s.updShuttle sh fun _ => { s.shuttle sh with panelLine := false }) [] [] := by
  refine effect_jobReports (l := []) exec_panelRemoved ?_ rfl
  have hb : panelLeaves sh (setPanelLine sh false (beginStep s)) = setPanelLine sh false (beginStep s) := by
    have hs : (beginStep s).shuttle sh = s.shuttle sh := rfl
    rcases h with h | h | h | h <;> simp only [panelLeaves, setPanelLine_shuttle, hs, h]
  exact hb

/-- R37: a job SEATED or WAITING AREA whose boards are all WAITING is withdrawn with cause PANEL REMOVED at its place in the list, its
boards ABANDONED; the shuttles stand. -/
theorem withdrawRemoved_listed (h : Lists s before j after) (hj : j.state = .seated ∨ j.state = .waitingArea)
    (hw : ∀ b ∈ j.boards, b.state = .waiting) :
    ∃ k : Job, (withdrawRemoved j.tag s).jobs = before ++ k :: after ∧ (withdrawRemoved j.tag s).shut = s.shut ∧
      k.tag = j.tag ∧ k.state = .withdrawn ∧ k.cause = .panelRemoved ∧ k.bound = none ∧ k.summary.isSome = true ∧
      ∀ b ∈ k.boards, b.state = .abandoned := by
  have hmarked := h.replaced (k := { j with cause := .panelRemoved }) rfl
  rw [← h.updJob fun j => { j with cause := .panelRemoved }] at hmarked
  obtain ⟨done, hlists, hboards, hshut⟩ := abandonBoards_lists hmarked hw
  have hnext : jobNext (Job.abandonedAt { j with cause := .panelRemoved } done).state .panelRemoved = some .withdrawn := by
    have hstate : (Job.abandonedAt { j with cause := .panelRemoved } done).state = j.state := rfl
    rcases hj with hj | hj <;> rw [hstate, hj] <;> rfl
  have hevent := jobEvent_listed hlists hnext (f := fun j => { j with bound := none }) rfl
  have hdone : withdrawRemoved j.tag s = _ := hevent
  refine ⟨enterJobState .withdrawn { Job.abandonedAt { j with cause := .panelRemoved } done with bound := none },
    ?_, ?_, rfl, rfl, rfl, rfl, rfl, hboards⟩
  · rw [hdone, queueReport_jobs]; rfl
  · rw [hdone, queueReport_shut]; exact hshut

/-- R53: an early removal makes the shuttle VACANT, takes it off the waiting set, and withdraws its job. -/
theorem earlyRemoval_eq (sh : Shuttle) (s : State) :
    earlyRemoval sh s =
      withdrawRemoved (s.shuttle sh).bound
        ((s.updShuttle sh fun r => { r with state := .vacant, bound := 0 }).updShut fun c => c.setWait sh false) := by
  rw [← updShut_setWait_set]
  rfl

/-- R53: an early removal, of a job none of whose boards has been taken up. -/
theorem earlyRemoval_listed (hl : Lists s before j after) (hbound : (s.shuttle sh).bound = j.tag)
    (hj : j.state = .seated ∨ j.state = .waitingArea) (hw : ∀ b ∈ j.boards, b.state = .waiting) :
    ∃ k : Job, (earlyRemoval sh s).jobs = before ++ k :: after ∧ (earlyRemoval sh s).shut.waits sh = false ∧
      (earlyRemoval sh s).shuttle sh = { s.shuttle sh with state := .vacant, bound := 0 } ∧
      k.tag = j.tag ∧ k.state = .withdrawn ∧ k.cause = .panelRemoved ∧ k.bound = none ∧ k.summary.isSome = true ∧
      ∀ b ∈ k.boards, b.state = .abandoned := by
  obtain ⟨k, hjobs, hshut, hk⟩ := withdrawRemoved_listed
    (s := (s.updShuttle sh fun r => { r with state := .vacant, bound := 0 }).updShut fun c => c.setWait sh false) hl hj hw
  rw [← hbound, ← earlyRemoval_eq] at hjobs hshut
  refine ⟨k, hjobs, ?_, ?_, hk⟩
  · simp [hshut]
  · simp [State.shuttle, hshut, State.updShuttle_shut]

/-- R53: a panel taken off a SEATED or WAITING AREA shuttle is an early removal. -/
theorem panelLeaves_early (h : (s.shuttle sh).state = .seated ∨ (s.shuttle sh).state = .waitingArea) :
    panelLeaves sh s = earlyRemoval sh s := by
  rcases h with h | h <;> simp only [panelLeaves, h]

/-- R44, R53: a panel taken off a shuttle that still waits with its job withdraws that job. -/
theorem panelRemoved_early (hl : Lists s before j after)
    (h : (s.shuttle sh).state = .seated ∨ (s.shuttle sh).state = .waitingArea) (hbound : (s.shuttle sh).bound = j.tag)
    (hj : j.state = .seated ∨ j.state = .waitingArea) (hw : ∀ b ∈ j.boards, b.state = .waiting) :
    ∃ (t : State) (k : Job), exec (.panelRemoved sh) s = .next t ∧ t.shut.waits sh = false ∧
      t.shuttle sh = { s.shuttle sh with state := .vacant, bound := 0, panelLine := false } ∧
      t.jobs = before ++ k :: after ∧ k.tag = j.tag ∧ k.state = .withdrawn ∧ k.cause = .panelRemoved ∧ k.bound = none ∧
      k.summary.isSome = true ∧ ∀ b ∈ k.boards, b.state = .abandoned := by
  have hline := setPanelLine_shuttle (beginStep s) sh false
  obtain ⟨k, hjobs, hwaits, hshuttle, hk⟩ :=
    earlyRemoval_listed (s := setPanelLine sh false (beginStep s)) hl (by rw [hline]; exact hbound) hj hw
  rw [← panelLeaves_early (by rw [hline]; exact h)] at hjobs hwaits hshuttle
  refine ⟨_, k, exec_panelRemoved, ?_, ?_, ?_, hk⟩
  · rw [finishStep_shut, hwaits]
  · rw [State.shuttle, finishStep_shut]
    exact hshuttle.trans (by rw [hline]; rfl)
  · rw [finishStep_jobs, hjobs]

/-- Settles O41: what the event does in each state of the shuttle, panel seen and panel taken off. -/
theorem panelSeen : Obligations.PanelSeen :=
  ⟨fun _ _ => ⟨panelPresent_occupied, panelPresent_unbound, panelRemoved_unbound, panelRemoved_atWindow, panelRemoved_elsewhere⟩,
    fun _ _ _ _ _ h hl hj hp hfirst => panelPresent_bound h hl hj hp hfirst,
    fun _ _ _ _ _ hl h hbound hj hw => panelRemoved_early hl h hbound hj hw⟩

/-! ## The request for the cut area (R47, R48, R50) -/

theorem exec_shuttleAreaRequest :
    exec (.shuttleAreaRequest sh) s =
      if (s.shuttle sh).state = .seated ∧ s.mode.mode = .run then applied (fun s => arbiterTest (askArea sh s)) s
      else notApplied s := rfl

/-- R47: the SEATED shuttle and its job become WAITING AREA. -/
theorem askArea_listed (h : (s.shuttle sh).state = .seated) (hl : Lists s before j after) (hbound : j.tag = (s.shuttle sh).bound)
    (hj : j.state = .seated) :
    askArea sh s =
      queueReport (.jobState (jobReportOf { j with state := .waitingArea } .none))
        (((s.updShuttle sh fun r => { r with state := .waitingArea }).updShut fun c => c.setWait sh true).updJobs fun _ =>
          before ++ { j with state := .waitingArea } :: after) := by
  have hsame : (((s.updShuttle sh fun r => { r with state := .waitingArea }).updShut fun c => c.setWait sh true).shuttle sh).bound =
      j.tag := by
    simp [State.shuttle, State.updShuttle_shut, hbound]
  rw [askArea, if_pos h]
  dsimp only
  rw [updShut_setWait_set s sh (fun r => { r with state := .waitingArea }), hsame]
  exact jobEvent_listed (s := (s.updShuttle sh _).updShut _) hl (e := .asks) (st := .waitingArea) (by rw [hj]; rfl) (f := id) rfl

/-- R50: the grant, in the terms of the shuttles' records. -/
theorem grantArea_eq (sh : Shuttle) (s : State) :
    grantArea sh s =
      sendRequest .shuttle (.moveIn sh)
        (jobEvent (s.shuttle sh).bound .granted id (s.updShut (ShuttleCtl.granted sh (nextReq .shuttle s)))) := by
  have hshut := funext fun c => ShuttleCtl.granted_eq c sh (nextReq .shuttle s)
  have hbound : ((s.updShut (ShuttleCtl.granted sh (nextReq .shuttle s))).shuttle sh).bound = (s.shuttle sh).bound := by
    simp [State.shuttle]
  rw [grantArea, hshut, hbound]

/-- R50: the grant to a waiting shuttle, its job becoming LOADING and its move in requested. -/
theorem grantArea_listed (hl : Lists s before j after) (hbound : j.tag = (s.shuttle sh).bound) (hj : j.state = .waitingArea) :
    grantArea sh s =
      queueReport (.jobState (jobReportOf { j with state := .loading } .none))
        (sendRequest .shuttle (.moveIn sh)
          ((s.updShut (ShuttleCtl.granted sh (nextReq .shuttle s))).updJobs fun _ =>
            before ++ { j with state := .loading } :: after)) := by
  have hevent := jobEvent_listed (s := s.updShut (ShuttleCtl.granted sh (nextReq .shuttle s))) hl (e := .granted)
    (st := .loading) (by rw [hj]; rfl) (f := id) rfl
  rw [grantArea_eq, ← hbound, hevent, sendRequest_queue]
  rfl

/-- R47, R50: the records after a request and its grant in one step. -/
theorem updShut_granted_of_asked (hw : s.shut.waits sh = false) (req : ReqNo) (asked loading : List Job) :
    ((((s.updShuttle sh fun r => { r with state := .waitingArea }).updShut fun c => c.setWait sh true).updJobs fun _ =>
        asked).updShut (ShuttleCtl.granted sh req)).updJobs (fun _ => loading) =
      ((s.updShuttle sh fun r => { r with state := .movingIn, moveReq := some req }).updShut fun c =>
        { c with holder := some sh }).updJobs fun _ => loading :=
  congrArg (fun c => { s with jobs := loading, shut := c }) (ShuttleCtl.granted_of_asked s.shut sh hw req)

/-- R48: the only shuttle that waits is the next. -/
theorem nextWaiting_sole (h : s.shut.waits sh = true) (hother : ∀ x, x ≠ sh → s.shut.waits x = false) :
    nextWaiting s = some sh := by
  cases sh with
  | A =>
    have hA : s.shut.waitA = true := h
    have hB : s.shut.waitB = false := hother .B (by decide)
    simp [nextWaiting, hA, hB]
  | B =>
    have hB : s.shut.waitB = true := h
    have hA : s.shut.waitA = false := hother .A (by decide)
    simp [nextWaiting, hA, hB]

/-- R48: while a shuttle holds the cut area there is no grant. -/
theorem arbiterTest_held (h : s.shut.holder ≠ none) : arbiterTest s = s := if_neg fun hc => h hc.1

/-- R48: in RUN a cut area that none holds is granted to the only shuttle that waits. -/
theorem arbiterTest_sole (h : s.shut.holder = none) (hm : s.mode.mode = .run) (hw : s.shut.waits sh = true)
    (hother : ∀ x, x ≠ sh → s.shut.waits x = false) : arbiterTest s = grantArea sh s := by
  simp only [arbiterTest, h, hm, and_self, if_true, nextWaiting_sole hw hother]

/-- R47: a request of a shuttle that is not SEATED, or outside RUN, is not applied. -/
theorem shuttleAreaRequest_idle (h : (s.shuttle sh).state ≠ .seated ∨ s.mode.mode ≠ .run) :
    exec (.shuttleAreaRequest sh) s = .next { s with out := emptyOutput } := by
  rw [exec_shuttleAreaRequest, if_neg fun hc => h.elim (· hc.1) (· hc.2)]
  rfl

/-- R47, R48: the request made while a shuttle holds the cut area waits. -/
theorem shuttleAreaRequest_waits (h : (s.shuttle sh).state = .seated) (hm : s.mode.mode = .run) (hl : Lists s before j after)
    (hbound : j.tag = (s.shuttle sh).bound) (hj : j.state = .seated) (hheld : s.shut.holder ≠ none) :
    Effect (.shuttleAreaRequest sh) s
      (((s.updShuttle sh fun r => { r with state := .waitingArea }).updShut fun c => c.setWait sh true).updJobs fun _ =>
        before ++ { j with state := .waitingArea } :: after)
      [.jobState (jobReportOf { j with state := .waitingArea } .none)] [] := by
  refine effect_jobReports (l := [_]) (exec_shuttleAreaRequest.trans (if_pos ⟨h, hm⟩)) ?_ rfl
  rw [askArea_listed (s := beginStep s) h hl hbound hj, arbiterTest_held (by simpa [State.updShuttle_shut] using hheld)]
  rfl

/-- R48, R50: the request made while the cut area is free and no other shuttle waits is granted at once. -/
theorem shuttleAreaRequest_granted (h : (s.shuttle sh).state = .seated) (hm : s.mode.mode = .run)
    (hl : Lists s before j after) (hbound : j.tag = (s.shuttle sh).bound) (hj : j.state = .seated)
    (hfree : s.shut.holder = none) (hwaits : ∀ x, s.shut.waits x = false) :
    Effect (.shuttleAreaRequest sh) s
      ((((s.updShuttle sh fun r => { r with state := .movingIn, moveReq := some s.drive.shuttle }).updShut fun c =>
        { c with holder := some sh }).updJobs fun _ => before ++ { j with state := .loading } :: after).numbered .shuttle)
      [.jobState (jobReportOf { j with state := .waitingArea } .none), .jobState (jobReportOf { j with state := .loading } .none)]
      [.request .shuttle s.drive.shuttle (.moveIn sh)] := by
  refine effect_jobReports (l := [_, _]) (exec_shuttleAreaRequest.trans (if_pos ⟨h, hm⟩)) ?_ rfl
  rw [askArea_listed (s := beginStep s) h hl hbound hj,
    arbiterTest_sole (sh := sh) (by simpa [State.updShuttle_shut] using hfree) (by simpa using hm) (by simp)
      (fun x hx => by simpa [State.updShuttle_shut, ShuttleCtl.setWait_waits_other _ _ _ _ hx] using hwaits x),
    grantArea_listed (j := { j with state := .waitingArea }) (before := before) (after := after) ?_ ?_ rfl]
  · simp only [updShut_queue, updJobs_queue, sendRequest_queue, queueReport_nextReq]
    rw [updShut_granted_of_asked (s := beginStep s) (hwaits sh)]
    rfl
  · refine .queued (.replaced (j := j) (k := { j with state := .waitingArea }) ?_ rfl) _
    exact hl
  · simp [State.shuttle, State.updShuttle_shut, hbound]

/-- Settles O42: the request is not applied, waits, or is granted at once. -/
theorem areaGranted : Obligations.AreaGranted := by
  refine ⟨fun _ _ => shuttleAreaRequest_idle, fun s sh before after j h hm hl hbound hj => ⟨fun hheld => ?_, fun hfree hA hB => ?_⟩⟩
  · exact shuttleAreaRequest_waits h hm hl hbound hj hheld
  · exact shuttleAreaRequest_granted h hm hl hbound hj hfree fun x => by cases x <;> assumption

end Sys2Proof.Machine
end

section
/-! SUPPORT. The pass in flight outside RUN (R76, R194). One view of the state, `passOutside`, is what a pass started elsewhere than
in RUN would change: no working block changes it, a choice of the Cut Sequencer included, except that the end of a pass empties
it. -/

namespace Sys2Proof.Machine

/-- The pass in flight, seen only while the mode is not RUN. -/
def State.passOutside (s : State) : Option PassRec := if s.mode.mode = .run then none else s.seq.pass

variable (s : State)

theorem passOutside_run (h : s.mode.mode = .run) : s.passOutside = none := if_pos h

theorem passOutside_other (h : s.mode.mode ≠ .run) : s.passOutside = s.seq.pass := if_neg h

theorem passOutside_none (h : s.seq.pass = none) : s.passOutside = none := by simp [State.passOutside, h]

variable {s} in
/-- Equal modes and equal passes look the same. -/
theorem passOutside_congr {t : State} (hm : t.mode.mode = s.mode.mode) (hp : t.seq.pass = s.seq.pass) :
    t.passOutside = s.passOutside := by simp [State.passOutside, hm, hp]

variable {s} in
/-- An operation that keeps the mode record need only be looked at outside RUN. -/
theorem passOutside_of_fixed {t : State} (hf : t.fixed = s.fixed)
    (h : s.mode.mode ≠ .run → t.passOutside = s.passOutside) : t.passOutside = s.passOutside := by
  by_cases hm : s.mode.mode = .run
  · rw [passOutside_run s hm, passOutside_run t ((mode_of_fixed hf).symm ▸ hm)]
  · exact h hm

/-! ## Updates -/

@[simp] theorem updLink_passOutside (f : Link → Link) : (s.updLink f).passOutside = s.passOutside := rfl
@[simp] theorem updStore_passOutside (f : Store → Store) : (s.updStore f).passOutside = s.passOutside := rfl
@[simp] theorem updJobs_passOutside (f : List Job → List Job) : (s.updJobs f).passOutside = s.passOutside := rfl
@[simp] theorem updShut_passOutside (f : ShuttleCtl → ShuttleCtl) : (s.updShut f).passOutside = s.passOutside := rfl
@[simp] theorem updTool_passOutside (f : ToolRec → ToolRec) : (s.updTool f).passOutside = s.passOutside := rfl
@[simp] theorem updPick_passOutside (f : PickRec → PickRec) : (s.updPick f).passOutside = s.passOutside := rfl
@[simp] theorem updRoute_passOutside (f : RouteRec → RouteRec) : (s.updRoute f).passOutside = s.passOutside := rfl
@[simp] theorem updBay_passOutside (f : BayCtl → BayCtl) : (s.updBay f).passOutside = s.passOutside := rfl
@[simp] theorem updOut_passOutside (f : Output → Output) : (s.updOut f).passOutside = s.passOutside := rfl
@[simp] theorem updShuttle_passOutside (sh : Shuttle) (f : ShuttleRec → ShuttleRec) :
    (s.updShuttle sh f).passOutside = s.passOutside := rfl
@[simp] theorem updBayRec_passOutside (b : Bay) (f : BayRec → BayRec) : (s.updBayRec b f).passOutside = s.passOutside := rfl
@[simp] theorem updJob_passOutside (tag : Nat) (f : Job → Job) : (s.updJob tag f).passOutside = s.passOutside := rfl
@[simp] theorem updBoard_passOutside (tag i : Nat) (f : BoardRec → BoardRec) :
    (s.updBoard tag i f).passOutside = s.passOutside := rfl
@[simp] theorem updTab_passOutside (tag i ring : Nat) (f : TabRec → TabRec) :
    (s.updTab tag i ring f).passOutside = s.passOutside := rfl
@[simp] theorem sendRequest_passOutside (g : Group) (w : DriveReq) : (sendRequest g w s).passOutside = s.passOutside := rfl
@[simp] theorem sendPlain_passOutside (m : DriveMsg) : (sendPlain m s).passOutside = s.passOutside := rfl
@[simp] theorem markCell_passOutside (e : CellEvent) : (markCell e s).passOutside = s.passOutside := rfl

/-- An update of the sequencer record that keeps the pass. -/
@[simp] theorem updSeq_passOutside (f : SeqRec → SeqRec) (h : ∀ q, (f q).pass = q.pass) :
    (s.updSeq f).passOutside = s.passOutside := passOutside_congr rfl (h s.seq)

/-- An update of the mode record that keeps the mode. -/
@[simp] theorem updMode_passOutside (f : ModeRec → ModeRec) (h : ∀ m, (f m).mode = m.mode) :
    (s.updMode f).passOutside = s.passOutside := passOutside_congr (h s.mode) rfl

/-- A fold of steps that keep the pass outside RUN keeps it. -/
theorem foldl_passOutside {α : Type} (f : State → α → State) (hf : ∀ s x, (f s x).passOutside = s.passOutside) (l : List α) :
    ∀ s : State, (l.foldl f s).passOutside = s.passOutside := by
  induction l with
  | nil => exact fun _ => rfl
  | cons x rest ih => exact fun s => (ih (f s x)).trans (hf s x)

/-! ## Reports and flags -/

@[simp] theorem queueReport_passOutside (r : Report) : (queueReport r s).passOutside = s.passOutside :=
  passOutside_congr (by simp) (by simp)

@[simp] theorem raiseFlag_passOutside (x : Flag) : (raiseFlag x s).passOutside = s.passOutside := by
  unfold raiseFlag; split <;> simp

@[simp] theorem placeCellState_passOutside : (placeCellState s).passOutside = s.passOutside := by
  unfold placeCellState; repeat' split
  all_goals simp

/-! ## The Tool Monitor -/

@[simp] theorem toolReport_passOutside (c : ToolCause) : (toolReport c s).passOutside = s.passOutside := by simp [toolReport]

@[simp] theorem startChanger_passOutside : (startChanger s).passOutside = s.passOutside := by
  unfold startChanger; repeat' split
  all_goals simp

@[simp] theorem decideChange_passOutside (c : ToolCause) (e : BitDesc) : (decideChange c e s).passOutside = s.passOutside := by
  simp [decideChange]

@[simp] theorem tryChange_passOutside (c : ToolCause) : (tryChange c s).passOutside = s.passOutside := by
  unfold tryChange; split <;> simp

@[simp] theorem expireBit_passOutside (c : ToolCause) : (expireBit c s).passOutside = s.passOutside := by
  unfold expireBit; dsimp only; split <;> simp

@[simp] theorem toolOutcome_passOutside (c : LoadClass) : (toolOutcome c s).passOutside = s.passOutside := by
  cases c with
  | clean => simp [toolOutcome]
  | shallow => simp [toolOutcome]
  | hard =>
    simp only [toolOutcome]; repeat' split
    all_goals simp

@[simp] theorem haltChanger_passOutside : (haltChanger s).passOutside = s.passOutside := by
  unfold haltChanger; repeat' split
  all_goals simp

@[simp] theorem failChanger_passOutside (c : ToolCause) : (failChanger c s).passOutside = s.passOutside := by
  simp [failChanger]

/-! ## The Job List and the Shuttle Controller -/

@[simp] theorem reportJob_passOutside (tag : Nat) : (reportJob tag s).passOutside = s.passOutside := by
  unfold reportJob; split <;> simp

@[simp] theorem jobEvent_passOutside (tag : Nat) (e : JobEvent) (f : Job → Job) :
    (jobEvent tag e f s).passOutside = s.passOutside := by
  unfold jobEvent; repeat' split
  all_goals simp

@[simp] theorem removeJob_passOutside (tag : Nat) (l : LeaveListCause) : (removeJob tag l s).passOutside = s.passOutside := by
  unfold removeJob; split <;> simp

@[simp] theorem reportBoard_passOutside (tag i : Nat) : (reportBoard tag i s).passOutside = s.passOutside := by
  unfold reportBoard; split <;> simp

@[simp] theorem moveBoard_passOutside (tag i : Nat) (e : BoardEvent) : (moveBoard tag i e s).1.passOutside = s.passOutside := by
  unfold moveBoard; split
  · rfl
  · dsimp only; split <;> simp

@[simp] theorem bindJob_passOutside (sh : Shuttle) (tag : Nat) : (bindJob sh tag s).passOutside = s.passOutside := by
  simp [bindJob]

/-- R48: outside RUN nothing is granted. -/
@[simp] theorem arbiterTest_passOutside : (arbiterTest s).passOutside = s.passOutside :=
  passOutside_of_fixed (by simp) fun h => by simp [arbiterTest, h]

/-- R51: outside RUN no move out starts. -/
@[simp] theorem startMoveOut_passOutside (sh : Shuttle) : (startMoveOut sh s).passOutside = s.passOutside :=
  passOutside_of_fixed (by simp) fun h => by simp [startMoveOut, h]

@[simp] theorem askMoveOut_passOutside (sh : Shuttle) : (askMoveOut sh s).passOutside = s.passOutside := by simp [askMoveOut]

@[simp] theorem askArea_passOutside (sh : Shuttle) : (askArea sh s).passOutside = s.passOutside := by
  unfold askArea; split <;> simp

@[simp] theorem unbindJob_passOutside (tag : Nat) : (unbindJob tag s).passOutside = s.passOutside := by simp [unbindJob]

/-! ## The Bay Controller -/

@[simp] theorem bayReport_passOutside (b : Bay) (c : BayCause) : (bayReport b c s).passOutside = s.passOutside := by
  simp [bayReport]

@[simp] theorem magazineReport_passOutside (b : Bay) (u : Bool) : (magazineReport b u s).passOutside = s.passOutside := by
  unfold magazineReport; split <;> simp

@[simp] theorem openLatch_passOutside (b : Bay) : (openLatch b s).passOutside = s.passOutside := by
  unfold openLatch; split <;> simp

@[simp] theorem openHeldLatch_passOutside (b : Bay) : (openHeldLatch b s).passOutside = s.passOutside := by
  unfold openHeldLatch; split <;> simp

@[simp] theorem releaseBay_passOutside (b : Bay) : (releaseBay b s).passOutside = s.passOutside := by simp [releaseBay]

@[simp] theorem askSwap_passOutside (b : Bay) (m : SwapMark) : (askSwap b m s).passOutside = s.passOutside := by
  unfold askSwap; dsimp only; split <;> simp

@[simp] theorem autoSwapTest_passOutside (b : Bay) : (autoSwapTest b s).passOutside = s.passOutside := by
  unfold autoSwapTest; split <;> simp

@[simp] theorem drainTest_passOutside (b : Bay) : (drainTest b s).passOutside = s.passOutside := by
  unfold drainTest; split <;> simp

@[simp] theorem mapSlots_passOutside (b : Bay) (f : List Slot → List Slot) : (mapSlots b f s).passOutside = s.passOutside := rfl

@[simp] theorem reserveRun_passOutside (b : Bay) (n : Nat) (r : RunHead) : (reserveRun b n r s).passOutside = s.passOutside := by
  simp [reserveRun]

@[simp] theorem occupyRun_passOutside (b : Bay) (n : Nat) : (occupyRun b n s).passOutside = s.passOutside := rfl

@[simp] theorem blockRun_passOutside (b : Bay) (n : Nat) : (blockRun b n s).passOutside = s.passOutside := rfl

@[simp] theorem freeRun_passOutside (b : Bay) (n c : Nat) : (freeRun b n c s).passOutside = s.passOutside := by simp [freeRun]

/-! ## Boards -/

@[simp] theorem giveUpJob_passOutside (tag : Nat) : (giveUpJob tag s).passOutside = s.passOutside := by
  unfold giveUpJob; split <;> simp

@[simp] theorem finishAtArea_passOutside (b : Option Shuttle) : (finishAtArea b s).passOutside = s.passOutside := by
  unfold finishAtArea; split <;> simp

@[simp] theorem completeJob_passOutside (tag : Nat) : (completeJob tag s).passOutside = s.passOutside := by
  unfold completeJob; repeat' split
  all_goals simp

@[simp] theorem boardEvent_passOutside (tag i : Nat) (e : BoardEvent) : (boardEvent tag i e s).passOutside = s.passOutside := by
  have h := moveBoard_passOutside s tag i e
  unfold boardEvent; split
  · split <;> simp_all
  · simp_all

@[simp] theorem leaveHoldList_passOutside (tag i : Nat) : (leaveHoldList tag i s).passOutside = s.passOutside := by
  simp only [leaveHoldList, updPick_passOutside]
  exact updSeq_passOutside s _ (fun q => by split <;> rfl)

@[simp] theorem leaveCurrent_passOutside (tag i : Nat) : (leaveCurrent tag i s).passOutside = s.passOutside :=
  updSeq_passOutside s _ (fun q => by split <;> rfl)

/-! ## The Pick Controller -/

@[simp] theorem startMotion_passOutside (k : MotionKind) : (startMotion k s).passOutside = s.passOutside := by
  unfold startMotion; split <;> simp

@[simp] theorem startHeldMotion_passOutside : (startHeldMotion s).passOutside = s.passOutside := by
  unfold startHeldMotion; repeat' split
  all_goals simp

@[simp] theorem serveTest_passOutside : (serveTest s).passOutside = s.passOutside := by
  unfold serveTest; repeat' split
  all_goals simp

@[simp] theorem requestHold_passOutside (tag i : Nat) : (requestHold tag i s).passOutside = s.passOutside := by
  simp [requestHold]

@[simp] theorem returnEmpty_passOutside : (returnEmpty s).passOutside = s.passOutside := by simp [returnEmpty]

@[simp] theorem settleHead_passOutside : (settleHead s).passOutside = s.passOutside := by simp [settleHead]

@[simp] theorem confirmRun_passOutside (b : Bay) (r : Run) : (confirmRun b r s).passOutside = s.passOutside := by
  unfold confirmRun; dsimp only; split <;> simp

@[simp] theorem confirmTray_passOutside : (confirmTray s).passOutside = s.passOutside := by
  unfold confirmTray; dsimp only; split <;> simp

@[simp] theorem loseBoard_passOutside : (loseBoard s).passOutside = s.passOutside := by
  unfold loseBoard; split <;> simp

@[simp] theorem losePlacement_passOutside : (losePlacement s).passOutside = s.passOutside := by
  unfold losePlacement; dsimp only; split <;> simp

/-! ## The Claim Router -/

@[simp] theorem applyAnswer_passOutside (r : BoardRef) (a : Answer) : (applyAnswer r a s).passOutside = s.passOutside := by
  unfold applyAnswer; dsimp only; repeat' split
  all_goals simp

@[simp] theorem routeBoard_passOutside (r : BoardRef) : (routeBoard r s).passOutside = s.passOutside := by
  unfold routeBoard; dsimp only; split <;> simp

@[simp] theorem retryWait_passOutside : (retryWait s).passOutside = s.passOutside := by
  unfold retryWait; dsimp only; repeat' split
  all_goals simp

@[simp] theorem releaseDestination_passOutside (r : BoardRef) (d : Destination) :
    (releaseDestination r d s).passOutside = s.passOutside := by
  unfold releaseDestination; dsimp only; split <;> simp

@[simp] theorem dropCarried_passOutside (r : BoardRef) : (dropCarried r s).passOutside = s.passOutside := by simp [dropCarried]

/-! ## The Cut Sequencer -/

/-- R66: outside RUN a choice point starts no pass; the sequencer becomes READY. -/
@[simp] theorem chooseNext_passOutside : (chooseNext s).passOutside = s.passOutside :=
  passOutside_of_fixed (by simp) fun h => by
    unfold chooseNext
    rw [if_neg h]
    split <;> simp

@[simp] theorem chooseIfAwaiting_passOutside : (chooseIfAwaiting s).passOutside = s.passOutside := by
  unfold chooseIfAwaiting; split <;> simp

@[simp] theorem reportFitted_passOutside : (reportFitted s).passOutside = s.passOutside := by
  unfold reportFitted; split <;> simp

@[simp] theorem takeUpJob_passOutside (tag : Nat) : (takeUpJob tag s).passOutside = s.passOutside := by simp [takeUpJob]

@[simp] theorem enterHoldList_passOutside (tag i : Nat) : (enterHoldList tag i s).passOutside = s.passOutside := by
  simp [enterHoldList]

@[simp] theorem giveUpHold_passOutside (r : BoardRef) : (giveUpHold r s).passOutside = s.passOutside := by simp [giveUpHold]

@[simp] theorem loseHold_passOutside (r : BoardRef) : (loseHold r s).passOutside = s.passOutside := by
  unfold loseHold; dsimp only; split <;> simp

@[simp] theorem heldOutcome_passOutside (r : BoardRef) (d : Decision) : (heldOutcome r d s).passOutside = s.passOutside := by
  unfold heldOutcome; dsimp only; repeat' split
  all_goals simp

/-! ## The Cut Verifier and abandonment -/

@[simp] theorem boardConsequence_passOutside (r : PassRec) (d : Decision) :
    (boardConsequence r d s).passOutside = s.passOutside := by
  unfold boardConsequence; dsimp only; repeat' split
  all_goals simp

@[simp] theorem verifyPass_passOutside (r : PassRec) (c : LoadClass) (o : Bool) :
    (verifyPass r c o s).passOutside = s.passOutside := by
  unfold verifyPass; dsimp only; repeat' split
  all_goals simp

@[simp] theorem releaseAbandoned_passOutside (r : BoardRef) : (releaseAbandoned r s).passOutside = s.passOutside := by
  unfold releaseAbandoned; split <;> simp

@[simp] theorem abandonBoard_passOutside (tag i : Nat) : (abandonBoard tag i s).passOutside = s.passOutside := by
  have h := moveBoard_passOutside s tag i .abandoned
  unfold abandonBoard; split <;> simp_all

@[simp] theorem abandonBoards_passOutside (tag : Nat) : (abandonBoards tag s).passOutside = s.passOutside := by
  unfold abandonBoards; split
  · exact foldl_passOutside _ (by simp) _ _
  · rfl

@[simp] theorem abandonIfWithdrawing_passOutside (tag : Nat) : (abandonIfWithdrawing tag s).passOutside = s.passOutside := by
  unfold abandonIfWithdrawing; repeat' split
  all_goals simp

@[simp] theorem holdEntry_passOutside (tag i : Nat) : (holdEntry tag i s).passOutside = s.passOutside := by
  unfold holdEntry; split <;> simp

/-- R71: the pass is over, and the choice after it starts one in RUN only. -/
theorem completePass_passOutside (r : PassRec) (c : LoadClass) (o : Bool) : (completePass r c o s).passOutside = none := by
  have hover : (verifyPass r c o (s.updSeq fun q => { q with pass := none })).passOutside = none :=
    (verifyPass_passOutside _ r c o).trans (passOutside_none _ rfl)
  unfold completePass; dsimp only; split
  · rw [abandonIfWithdrawing_passOutside, updSeq_passOutside _ _ (fun q => by split <;> rfl), hover]
  · rw [chooseNext_passOutside, holdEntry_passOutside, hover]

/-- R73: a stop leaves no pass in flight. -/
theorem interruptPass_passOutside (c : StopCause) : (interruptPass c s).passOutside = none := by
  refine passOutside_none _ ?_
  unfold interruptPass; dsimp only; split
  · assumption
  · split <;> split <;> rfl

@[simp] theorem settleHeldPass_passOutside : (settleHeldPass s).passOutside = s.passOutside := by
  unfold settleHeldPass; dsimp only; repeat' split
  all_goals simp

end Sys2Proof.Machine
end

section
/-! SUPPORT. What the Mode Controller's operations and the owners of requests make of the pass in flight outside RUN (R76, R194). A
change of mode shows there the pass that the change finds, and nothing of what the entry into RUN starts. -/

namespace Sys2Proof.Machine

/-- The pass in flight of `t`, unless that is in RUN, is the one of `s` or none. -/
def StartsInRun (s t : State) : Prop := t.passOutside = s.seq.pass ∨ t.passOutside = none

variable (s : State)

variable {s} in
theorem StartsInRun.of_steady {t : State} (h : t.passOutside = s.passOutside) : StartsInRun s t := by
  by_cases hm : s.mode.mode = .run
  · exact .inr (h.trans (passOutside_run s hm))
  · exact .inl (h.trans (passOutside_other s hm))

variable {s} in
/-- What follows a change of mode keeps what it found. -/
theorem StartsInRun.then_steady {t u : State} (h : StartsInRun s t) (hu : u.passOutside = t.passOutside) : StartsInRun s u :=
  h.imp hu.trans hu.trans

variable {s} in
theorem StartsInRun.pass_cases {t : State} (h : StartsInRun s t) :
    t.seq.pass = s.seq.pass ∨ t.seq.pass = none ∨ t.mode.mode = .run := by
  by_cases hm : t.mode.mode = .run
  · exact .inr (.inr hm)
  · rw [StartsInRun, passOutside_other t hm] at h
    exact h.imp_right .inl

/-! ## Changes of mode -/

@[simp] theorem setOutputs_passOutside : (setOutputs s).passOutside = s.passOutside := by
  rcases setOutputs_cases s with e | e <;> rw [e]
  · exact passOutside_congr rfl rfl
  · exact passOutside_congr rfl rfl

@[simp] theorem enterPaused_passOutside : (enterPaused s).passOutside = s.passOutside :=
  (foldl_passOutside _ (by simp) _ _).trans (startHeldMotion_passOutside s)

/-- R191: the entry into a mode other than RUN starts no pass; the entry into RUN ends in RUN. -/
theorem setMode_startsInRun (m : Mode) : StartsInRun s (setMode m s) := by
  have hchange : m ≠ .run → (markCell .mode (setOutputs (s.updMode fun r => { r with mode := m }))).passOutside = s.seq.pass :=
    fun h => by
      rw [markCell_passOutside, setOutputs_passOutside]
      exact passOutside_other _ h
  cases m with
  | run => exact .inr (passOutside_run _ (by simp))
  | paused => exact .inl ((enterPaused_passOutside _).trans (hchange (by decide)))
  | homing => exact .inl (hchange (by decide))
  | stopped => exact .inl (hchange (by decide))
  | parking => exact .inl (hchange (by decide))
  | parked => exact .inl (hchange (by decide))

@[simp] theorem parkGroup_passOutside (g : Group) : (parkGroup s g).passOutside = s.passOutside := by
  unfold parkGroup; dsimp only; split <;> simp

@[simp] theorem parkTest_passOutside : (parkTest s).passOutside = s.passOutside := foldl_passOutside _ (by simp) _ s

theorem followPause_startsInRun : StartsInRun s (followPause s) := by
  unfold followPause; repeat' split
  · exact setMode_startsInRun s _
  · exact .of_steady rfl
  · exact .of_steady rfl
  · exact setMode_startsInRun s _
  · exact .of_steady (parkTest_passOutside s)
  · exact .of_steady rfl

theorem setPause_startsInRun (p : PauseCauses) : StartsInRun s (setPause p s) := by
  unfold setPause; split
  · exact .of_steady rfl
  · exact followPause_startsInRun (markCell .cause (s.updMode _))

/-! ## Stops (R192) -/

@[simp] theorem haltGroups_passOutside : (haltGroups s).passOutside = s.passOutside :=
  passOutside_congr (by simp) (by simp)

@[simp] theorem abandonHoming_mode (before : Mode) (m : ModeRec) : (abandonHoming before m).mode = m.mode := by
  unfold abandonHoming; split <;> rfl

/-- R192: a stop leaves no pass in flight. -/
theorem stopBlocks_passOutside (before : Mode) (c : StopCause) : (stopBlocks before c s).passOutside = none := by
  unfold stopBlocks; dsimp only; split <;> simp [interruptPass_passOutside]

/-- R192: in STOPPED a further cause changes nothing of the pass, and from any other mode the pass is interrupted. -/
theorem addStop_passOutside (c : StopCause) : (addStop c s).passOutside = s.passOutside ∨ (addStop c s).passOutside = none := by
  unfold addStop; dsimp only; split
  · exact .inl (by simp)
  · exact .inr (by simp [stopBlocks_passOutside])

variable {s} in
theorem addStop_startsInRun {u : State} (h : u.passOutside = s.passOutside) (c : StopCause) : StartsInRun s (addStop c u) :=
  (addStop_passOutside u c).elim (fun hu => .of_steady (hu.trans h)) .inr

theorem addStop_passOutside_none (c : StopCause) (h : s.passOutside = none) : (addStop c s).passOutside = none :=
  (addStop_passOutside s c).elim (·.trans h) id

/-! ## Homing and park (R191, R195) -/

@[simp] theorem requestReferencing_passOutside : (requestReferencing s).passOutside = s.passOutside :=
  (foldl_passOutside _ (by simp [referenceGroup]) _ _).trans (by simp)

theorem startHoming_startsInRun (k : HomingKind) : StartsInRun s (startHoming k s) :=
  (setMode_startsInRun (s.updMode _) .homing).then_steady (requestReferencing_passOutside _)

@[simp] theorem settleAwaited_passOutside (occupied : List Nat) : (settleAwaited occupied s).passOutside = s.passOutside := by
  unfold settleAwaited; repeat' split
  all_goals simp

@[simp] theorem restartVacuumWatch_passOutside : (restartVacuumWatch s).passOutside = s.passOutside := by
  unfold restartVacuumWatch; split <;> simp

@[simp] theorem releaseCarry_passOutside : (releaseCarry s).passOutside = s.passOutside := by
  unfold releaseCarry; split <;> simp

variable {s} in
/-- R191: homing ends in a mode other than RUN, so that the entry into PAUSED or RUN finds the pass that was in flight. -/
theorem endHoming_startsInRun (h : s.mode.mode ≠ .run) (occupied : List Nat) : StartsInRun s (endHoming occupied s) := by
  unfold endHoming; dsimp only
  generalize hu : restartVacuumWatch _ = u
  have hfixed : u.fixed = (s.updMode fun m => { m with homing := .inPlace }).fixed := by rw [← hu]; simp
  have hmode : u.mode.mode ≠ .run := by rw [mode_of_fixed hfixed]; exact h
  have hpass : u.seq.pass = s.seq.pass := by
    rw [← passOutside_other u hmode, ← passOutside_other s h, ← hu]; simp
  have hset := setMode_startsInRun u (if u.mode.pause.any then .paused else .run)
  rwa [StartsInRun, hpass] at hset

variable {s} in
theorem groupReferenced_startsInRun (h : s.mode.mode ≠ .run) (g : Group) (occupied : List Nat) :
    StartsInRun s (groupReferenced g occupied s) := by
  unfold groupReferenced; dsimp only
  generalize hu : (if g = .pick then _ else _) = u
  have hfixed : u.mode.mode = s.mode.mode ∧ u.passOutside = s.passOutside := by
    subst hu
    split
    · exact ⟨by rw [mode_of_fixed (releaseCarry_fixed _)]; rfl, by simp⟩
    · exact ⟨rfl, by simp⟩
  obtain ⟨hmode, hpass⟩ := hfixed
  split
  · have hend := endHoming_startsInRun (hmode ▸ h) occupied
    rwa [StartsInRun, ← passOutside_other u (hmode ▸ h), hpass, passOutside_other s h] at hend
  · exact .of_steady hpass

theorem groupParked_startsInRun (g : Group) : StartsInRun s (groupParked g s) := by
  unfold groupParked; dsimp only; split
  · exact setMode_startsInRun (s.updMode _) .parked
  · exact .of_steady (by simp)

/-! ## The Mode Controller's commands -/

theorem readLines_startsInRun : StartsInRun s (readLines s) := setPause_startsInRun s _

theorem configure_startsInRun (o : Options) (policy : Bool) : StartsInRun s (configure o policy s) := by
  have hread : StartsInRun s (readLines ((s.updMode fun m => { m with options := o }).updRoute fun r =>
      { r with trayPolicy := policy })) := readLines_startsInRun _
  unfold configure; dsimp only
  refine hread.then_steady ?_
  rw [markCell_passOutside, tryChange_passOutside, foldl_passOutside _ (by simp), setOutputs_passOutside]

theorem startPark_startsInRun : StartsInRun s (startPark s) :=
  (setMode_startsInRun (s.updMode _) .parking).then_steady (parkTest_passOutside _)

theorem lineChanges_startsInRun (line : HoldLine) (level : Bool) : StartsInRun s (lineChanges line level s) := by
  have hset : ∀ m, (setLine line level m).mode = m.mode := fun m => by cases line <;> rfl
  unfold lineChanges; dsimp only; split
  · exact (readLines_startsInRun (s.updMode _)).then_steady (setOutputs_passOutside _)
  · exact .of_steady (by simp [hset])

@[simp] theorem endHalt_mode (g : Group) (req : Option ReqNo) (m : ModeRec) : (endHalt g req m).mode = m.mode := by
  unfold endHalt; split <;> rfl

@[simp] theorem setInterlock_mode (line : Interlock) (level : Bool) (m : ModeRec) :
    (setInterlock line level m).mode = m.mode := by cases line <;> rfl

end Sys2Proof.Machine
end

section
/-! A pass is started in RUN only (R76, R194): the owners of requests and the works of events one by one, then the dispatch. -/

namespace Sys2Proof.Machine

variable (s : State)

/-! ## The works of events -/

@[simp] theorem declareBit_passOutside (d : BitDesc) : (declareBit d s).passOutside = s.passOutside := by simp [declareBit]

@[simp] theorem addToRack_passOutside (d : BitDesc) : (addToRack d s).passOutside = s.passOutside := by
  unfold addToRack; dsimp only; split <;> simp

@[simp] theorem fitFromRack_passOutside (d : BitDesc) : (fitFromRack d s).passOutside = s.passOutside := by
  simp [fitFromRack]

@[simp] theorem acceptMagazine_passOutside (b : Bay) (m : RawMagazine) : (acceptMagazine b m s).passOutside = s.passOutside := by
  simp [acceptMagazine]

@[simp] theorem strayEvent_passOutside (b : Bay) (n : Nat) : (strayEvent b n s).passOutside = s.passOutside := by
  unfold strayEvent; dsimp only; split <;> simp

@[simp] theorem slotSeen_passOutside (b : Bay) (n : Nat) : (slotSeen b n s).passOutside = s.passOutside := by
  unfold slotSeen; repeat' split
  all_goals simp

@[simp] theorem magazineArrives_passOutside (b : Bay) : (magazineArrives b s).passOutside = s.passOutside := by
  unfold magazineArrives; dsimp only; split <;> simp [setMagazineLine]

@[simp] theorem expectedRemoval_passOutside (b : Bay) : (expectedRemoval b s).passOutside = s.passOutside := by
  simp [expectedRemoval]

@[simp] theorem settleRemoved_passOutside (awaited : Bool) (r : BoardRef) :
    (settleRemoved awaited r s).passOutside = s.passOutside := by
  cases awaited <;> simp [settleRemoved]

@[simp] theorem unexpectedRemoval_passOutside (b : Bay) : (unexpectedRemoval b s).passOutside = s.passOutside := by
  unfold unexpectedRemoval; dsimp only; split <;> simp

@[simp] theorem magazineLeaves_passOutside (b : Bay) : (magazineLeaves b s).passOutside = s.passOutside := by
  unfold magazineLeaves; dsimp only; split <;> simp [setMagazineLine]

@[simp] theorem latchOpens_passOutside (b : Bay) : (latchOpens b s).passOutside = s.passOutside := by simp [latchOpens]

@[simp] theorem grantHold_passOutside : (grantHold s).passOutside = s.passOutside := by
  unfold grantHold; dsimp only; split <;> simp

@[simp] theorem loseVacuum_passOutside : (loseVacuum s).passOutside = s.passOutside := by
  unfold loseVacuum; repeat' split
  all_goals simp

@[simp] theorem vacuumWatchExpires_passOutside : (vacuumWatchExpires s).passOutside = s.passOutside := by
  unfold vacuumWatchExpires; repeat' split
  all_goals simp

@[simp] theorem approachEnds_passOutside : (approachEnds s).passOutside = s.passOutside := rfl

@[simp] theorem transferEnds_passOutside : (transferEnds s).passOutside = s.passOutside := by simp [transferEnds]

@[simp] theorem expectPlacement_passOutside (d : Destination) : (expectPlacement d s).passOutside = s.passOutside := by
  cases d <;> simp [expectPlacement]

@[simp] theorem releaseBoard_passOutside : (releaseBoard s).passOutside = s.passOutside := by
  unfold releaseBoard; dsimp only; split <;> simp

@[simp] theorem returnEnds_passOutside : (returnEnds s).passOutside = s.passOutside := by simp [returnEnds]

@[simp] theorem panelArrives_passOutside (sh : Shuttle) : (panelArrives sh s).passOutside = s.passOutside := by
  unfold panelArrives; split <;> simp

@[simp] theorem withdrawRemoved_passOutside (tag : Nat) : (withdrawRemoved tag s).passOutside = s.passOutside := by
  simp [withdrawRemoved]

@[simp] theorem panelLeaves_passOutside (sh : Shuttle) : (panelLeaves sh s).passOutside = s.passOutside := by
  unfold panelLeaves; split <;> simp [earlyRemoval]

@[simp] theorem arriveAtCut_passOutside (sh : Shuttle) : (arriveAtCut sh s).passOutside = s.passOutside := by
  unfold arriveAtCut; dsimp only; split <;> simp

theorem cutWatchExpires_startsInRun : StartsInRun s (cutWatchExpires s) := addStop_startsInRun (by simp) _

theorem groupFaults_startsInRun (g : Group) (req : Option ReqNo) : StartsInRun s (groupFaults g req s) :=
  addStop_startsInRun (by simp) _

/-! ## The owners of requests -/

theorem handleConfigure_startsInRun (l : List Nat) : StartsInRun s (handleConfigure l s).state := by
  unfold handleConfigure; repeat' split
  · exact .of_steady rfl
  · exact .of_steady rfl
  · exact configure_startsInRun s _ _

@[simp] theorem handleSetCellTag_passOutside (tag : List Byte) : (handleSetCellTag tag s).state.passOutside = s.passOutside := by
  unfold handleSetCellTag; repeat' split
  all_goals simp

@[simp] theorem handleSetReports_passOutside (l : List Nat) : (handleSetReports l s).state.passOutside = s.passOutside := by
  unfold handleSetReports; split <;> rfl

@[simp] theorem handleAckFlags_passOutside (l : List Nat) : (handleAckFlags l s).state.passOutside = s.passOutside := by
  unfold handleAckFlags; split <;> rfl

@[simp] theorem handleLoadRecipe_passOutside (raw : RawRecipe) : (handleLoadRecipe raw s).state.passOutside = s.passOutside := by
  unfold handleLoadRecipe; dsimp only; repeat' split
  all_goals rfl

@[simp] theorem handleDropRecipe_passOutside (n : Nat) : (handleDropRecipe n s).state.passOutside = s.passOutside := by
  unfold handleDropRecipe; repeat' split
  all_goals rfl

@[simp] theorem handleSetClaim_passOutside (c : RawClaim) : (handleSetClaim c s).state.passOutside = s.passOutside := by
  unfold handleSetClaim; split <;> simp

@[simp] theorem handleEmptyTray_passOutside : (handleEmptyTray s).state.passOutside = s.passOutside := by
  unfold handleEmptyTray; split <;> simp

@[simp] theorem dropJob_passOutside (tag : Nat) (l : LeaveListCause) : (dropJob tag l s).passOutside = s.passOutside := by
  simp [dropJob]

@[simp] theorem evictOne_passOutside : (evictOne s).passOutside = s.passOutside := by
  unfold evictOne; repeat' split
  all_goals simp

@[simp] theorem handToShuttles_passOutside (tag : Nat) (p : Preference) : (handToShuttles tag p s).passOutside = s.passOutside := by
  unfold handToShuttles; split <;> simp

@[simp] theorem admitJob_passOutside (a : RawAnnounce) (r : Recipe) : (admitJob a r s).state.passOutside = s.passOutside := by
  simp [admitJob]

@[simp] theorem handleAnnounce_passOutside (a : RawAnnounce) : (handleAnnounce a s).state.passOutside = s.passOutside := by
  unfold handleAnnounce; repeat' split
  all_goals simp

@[simp] theorem stopSequencing_passOutside (tag : Nat) : (stopSequencing tag s).passOutside = s.passOutside :=
  updSeq_passOutside s _ (fun q => by split <;> rfl)

@[simp] theorem withdrawJob_passOutside (j : Job) : (withdrawJob j s).passOutside = s.passOutside := by
  unfold withdrawJob; dsimp only; repeat' split
  all_goals simp [markHostWithdrawal, leaveAtWindow]

@[simp] theorem handleWithdraw_passOutside (tag : Nat) : (handleWithdraw tag s).state.passOutside = s.passOutside := by
  unfold handleWithdraw; repeat' split
  all_goals simp

@[simp] theorem handleGetJob_passOutside (tag : Nat) : (handleGetJob tag s).state.passOutside = s.passOutside := by
  unfold handleGetJob; split
  · rfl
  · simp only [accept_state]; split <;> rfl

@[simp] theorem handleRelease_passOutside (tag : Nat) : (handleRelease tag s).state.passOutside = s.passOutside := by
  unfold handleRelease; repeat' split
  all_goals simp

@[simp] theorem handleSetTool_passOutside (d : BitDesc) : (handleSetTool d s).state.passOutside = s.passOutside := by
  unfold handleSetTool; repeat' split
  all_goals simp

@[simp] theorem handleRackBit_passOutside (d : BitDesc) : (handleRackBit d s).state.passOutside = s.passOutside := by
  unfold handleRackBit; repeat' split
  all_goals simp

@[simp] theorem handleAccept_passOutside (m : RawMagazine) : (handleAccept m s).state.passOutside = s.passOutside := by
  unfold handleAccept; repeat' split
  all_goals simp

@[simp] theorem handleSwap_passOutside (n : Nat) : (handleSwap n s).state.passOutside = s.passOutside := by
  unfold handleSwap; repeat' split
  all_goals simp

@[simp] theorem handleGetBay_passOutside (n : Nat) : (handleGetBay n s).state.passOutside = s.passOutside := by
  unfold handleGetBay; split <;> simp

theorem handlePause_startsInRun : StartsInRun s (handlePause s).state := setPause_startsInRun s _

theorem handleResume_startsInRun : StartsInRun s (handleResume s).state := by
  unfold handleResume; repeat' split
  · exact .of_steady rfl
  · exact startHoming_startsInRun (markCell .cause (s.updMode _)) _
  · exact setPause_startsInRun s _

theorem handlePark_startsInRun : StartsInRun s (handlePark s).state := by
  unfold handlePark; repeat' split
  · exact .of_steady rfl
  · exact startPark_startsInRun s
  · exact .of_steady rfl

theorem handleWake_startsInRun : StartsInRun s (handleWake s).state := by
  unfold handleWake; split
  · exact startHoming_startsInRun s _
  · exact .of_steady rfl

@[simp] theorem handleCellReset_passOutside (mark : Bool) : (handleCellReset mark s).state.passOutside = s.passOutside := by
  cases mark <;> rfl

/-! ## The receiver and the resets -/

@[simp] theorem setReceiver_passOutside (r : Receiver) : (setReceiver r s).passOutside = s.passOutside := rfl

@[simp] theorem linkError_passOutside : (linkError s).passOutside = s.passOutside := by simp [linkError]

@[simp] theorem settleFrame_passOutside (k t : Byte) (p c : List Byte) (hi lo : Byte) :
    (settleFrame k t p c hi lo s).passOutside = s.passOutside := by
  unfold settleFrame; dsimp only; split <;> simp

@[simp] theorem assemble_passOutside (got : List Byte) : (assemble got s).passOutside = s.passOutside := by
  unfold assemble; dsimp only; repeat' split
  all_goals simp

@[simp] theorem receiveByte_passOutside (b : Byte) : (receiveByte b s).passOutside = s.passOutside := by
  unfold receiveByte; repeat' split
  all_goals simp

@[simp] theorem receiveBytes_passOutside (l : List Byte) : (receiveBytes l s).passOutside = s.passOutside :=
  foldl_passOutside _ (by simp) l s

variable {s} in
/-- R190, R199: homing begins, or the interlock lines stop the cell, with no pass in flight. -/
theorem restartMode_passOutside (h : s.seq.pass = none) : (restartMode s).passOutside = none := by
  have hrestart : (s.updMode restartRecord).passOutside = none := passOutside_none _ h
  have hread : (readInterlocks (s.updMode restartRecord)).passOutside = none := by
    unfold readInterlocks; dsimp only
    split <;> split <;> simp [addStop_passOutside_none, hrestart]
  unfold restartMode; dsimp only; rw [setOutputs_passOutside]
  split
  · rw [requestReferencing_passOutside, hread]
  · exact hread

@[simp] theorem beginReset_seq (e : CellEvent) : (beginReset e s).seq = s.seq := by
  have hmark : (markCell e s).seq = s.seq := rfl
  unfold beginReset placeCellState; repeat' split
  all_goals simp [hmark]

theorem powerOn_passOutside (p : Pins) : (powerOn p s).passOutside = none :=
  restartMode_passOutside (by simp [powerOnState, State.resetSeq])

@[simp] theorem resetToolState_seq : (resetToolState s).seq = s.seq := by
  unfold resetToolState; split <;> simp [toolReport]

@[simp] theorem resetOneBay_passOutside (b : Bay) : (resetOneBay s b).passOutside = s.passOutside := by
  unfold resetOneBay; dsimp only; repeat' split
  all_goals simp

@[simp] theorem resetBays_passOutside : (resetBays s).passOutside = s.passOutside := by
  unfold resetBays; dsimp only
  rw [foldl_passOutside _ (by simp), foldl_passOutside _ (by simp)]; simp

theorem cellReset_passOutside : (cellReset s).passOutside = none := by
  unfold cellReset; dsimp only
  rw [resetBays_passOutside]
  exact restartMode_passOutside (by simp [State.resetSeq])

/-! ## Commands -/

/-- Where the outcome is a next state, a pass in flight in it that was not before is in RUN. -/
def PassesInRun (s : State) (o : Host.Outcome State Fault Refusal) : Prop := ∀ t, o = .next t → StartsInRun s t

variable {s}

@[simp] theorem finishStep_passOutside : (finishStep s).passOutside = s.passOutside :=
  passOutside_congr (by simp) (by simp)

theorem notApplied_passesInRun : PassesInRun s (notApplied s) := by
  rintro t ⟨⟩
  exact .of_steady rfl

theorem applied_passesInRun {f : State → State} (hf : StartsInRun (beginStep s) (f (beginStep s))) :
    PassesInRun s (applied f s) := by
  rintro t ⟨⟩
  exact hf.then_steady finishStep_passOutside

theorem applied_passSteady {f : State → State} (hf : ∀ u, (f u).passOutside = u.passOutside) : PassesInRun s (applied f s) :=
  applied_passesInRun (.of_steady (hf _))

/-- An event that is applied under a condition. -/
theorem event_passesInRun {p : Prop} [Decidable p] {f : State → State}
    (hf : p → StartsInRun (beginStep s) (f (beginStep s))) : PassesInRun s (if p then applied f s else notApplied s) := by
  split
  · rename_i h
    exact applied_passesInRun (hf h)
  · exact notApplied_passesInRun

theorem event_passSteady {p : Prop} [Decidable p] {f : State → State} (hf : ∀ u, (f u).passOutside = u.passOutside) :
    PassesInRun s (if p then applied f s else notApplied s) :=
  event_passesInRun fun _ => .of_steady (hf _)

/-- A request row starts a pass in RUN only if the owner that it hands the frame to does. -/
theorem owner_passesInRun {α : Type} {names : Frame → Bool} {work : Frame → State → Handled} {owner : α → State → Handled}
    (hw : HandsTo work owner) (ho : ∀ x u, StartsInRun u (owner x u).state) : PassesInRun s (request names work s) := by
  unfold request
  split
  · exact notApplied_passesInRun
  · rename_i f rest _
    split
    · rintro t ⟨⟩
      have htaken : StartsInRun s (work f (takeFrame rest (beginStep s))).state := by
        rcases hw f (takeFrame rest (beginStep s)) with h | ⟨x, h⟩ <;> rw [h]
        · exact .of_steady rfl
        · exact ho x (takeFrame rest (beginStep s))
      exact htaken.then_steady (u := finishStep (giveReply _ _)) finishStep_passOutside
    · exact notApplied_passesInRun

theorem owner_passSteady {α : Type} {names : Frame → Bool} {work : Frame → State → Handled} {owner : α → State → Handled}
    (hw : HandsTo work owner) (ho : ∀ x u, (owner x u).state.passOutside = u.passOutside) :
    PassesInRun s (request names work s) :=
  owner_passesInRun hw fun x u => .of_steady (ho x u)

/-! Commands that are applied in one state of a record, or to one of two effects. -/

theorem execFrameGapTimeout_passesInRun : PassesInRun s (execFrameGapTimeout s) := by
  unfold execFrameGapTimeout
  split
  · exact applied_passSteady (by simp)
  · exact notApplied_passesInRun

theorem execSkipQuietGap_passesInRun : PassesInRun s (execSkipQuietGap s) := by
  unfold execSkipQuietGap
  split
  · exact applied_passSteady (by simp)
  · exact notApplied_passesInRun

theorem execFrameSent_passesInRun : PassesInRun s (execFrameSent s) := by
  unfold execFrameSent
  split
  · exact applied_passSteady (by simp)
  · exact notApplied_passesInRun

theorem execUnknownKind_passesInRun : PassesInRun s (execUnknownKind s) :=
  owner_passSteady (α := Unit) (owner := fun _ => refuse .unknownKind) (fun _ _ => .inl rfl) (by simp)

theorem execPassCompletion_passesInRun (req : ReqNo) (load : LoadClass) (overrun : Bool) :
    PassesInRun s (execPassCompletion req load overrun s) := by
  unfold execPassCompletion
  split
  · exact event_passesInRun fun _ => .inr (completePass_passOutside _ _ _ _)
  · exact notApplied_passesInRun

theorem execInterlockActivation_passesInRun (line : Interlock) : PassesInRun s (execInterlockActivation line s) :=
  applied_passesInRun (addStop_startsInRun (by simp) _)

theorem execDriveFaultEvent_passesInRun (g : Group) (req : Option ReqNo) : PassesInRun s (execDriveFaultEvent g req s) := by
  unfold execDriveFaultEvent
  split
  · exact applied_passSteady (by simp)
  · exact event_passesInRun fun _ => groupFaults_startsInRun _ g req

/-- R191: a group is referenced in HOMING. -/
theorem execReferencingComplete_passesInRun (g : Group) (req : ReqNo) (occupied : List Nat) :
    PassesInRun s (execReferencingComplete g req occupied s) :=
  event_passesInRun fun ⟨hm, _⟩ => groupReferenced_startsInRun (by rw [beginStep_mode, hm]; decide) g occupied

theorem execChangerComplete_passesInRun (req : ReqNo) : PassesInRun s (execChangerComplete req s) := by
  unfold execChangerComplete
  split
  · exact event_passSteady (by simp)
  · exact notApplied_passesInRun

theorem execPanelPresent_passesInRun (sh : Shuttle) : PassesInRun s (execPanelPresent sh s) := by
  unfold execPanelPresent
  exact applied_passSteady fun u => by dsimp only; split <;> simp [setPanelLine]

/-- Whatever the command, a pass that is in flight outside RUN was in flight before. -/
theorem exec_passesInRun (c : Instr) (s : State) : PassesInRun s (exec c s) := by
  cases c with
  | powerOnReset p => exact applied_passesInRun (.inr (powerOn_passOutside _ p))
  | frameReceived l => exact applied_passSteady (by simp)
  | frameGapTimeout => exact execFrameGapTimeout_passesInRun
  | skipQuietGap => exact execSkipQuietGap_passesInRun
  | frameSent => exact execFrameSent_passesInRun
  | unknownKind => exact execUnknownKind_passesInRun
  | getStatus => exact owner_passSteady (unguarded_handsTo _ _) fun _ _ => rfl
  | configure => exact owner_passesInRun (guarded_handsTo _ _) fun l u => handleConfigure_startsInRun u l
  | setCellTag => exact owner_passSteady (guarded_handsTo _ _) (by simp)
  | setReports => exact owner_passSteady (guarded_handsTo _ _) (by simp)
  | ackFlags => exact owner_passSteady (guarded_handsTo _ _) (by simp)
  | loadRecipe => exact owner_passSteady (recipeGuarded_handsTo _ _) (by simp)
  | dropRecipe => exact owner_passSteady (recipeGuarded_handsTo _ _) (by simp)
  | getRecipe => exact owner_passSteady (recipeGuarded_handsTo _ _) (by simp)
  | getRecipeDirectory => exact owner_passSteady (recipeGuarded_handsTo _ _) fun _ _ => rfl
  | setClaim => exact owner_passSteady (guarded_handsTo _ _) (by simp)
  | getClaims => exact owner_passSteady (guarded_handsTo _ _) fun _ _ => rfl
  | announcePanel => exact owner_passSteady (guardedPresence_handsTo _ _) (by simp)
  | withdrawPanel => exact owner_passSteady (guarded_handsTo _ _) (by simp)
  | getJob => exact owner_passSteady (guarded_handsTo _ _) (by simp)
  | getJobDirectory => exact owner_passSteady (guarded_handsTo _ _) fun _ _ => rfl
  | releaseJob => exact owner_passSteady (guarded_handsTo _ _) (by simp)
  | setTool => exact owner_passSteady (guarded_handsTo _ _) (by simp)
  | rackBit => exact owner_passSteady (guarded_handsTo _ _) (by simp)
  | getTool => exact owner_passSteady (guarded_handsTo _ _) fun _ _ => rfl
  | acceptMagazine => exact owner_passSteady (guardedPresence_handsTo _ _) (by simp)
  | swapBay => exact owner_passSteady (guarded_handsTo _ _) (by simp)
  | getBay => exact owner_passSteady (guarded_handsTo _ _) (by simp)
  | emptyTray => exact owner_passSteady (guarded_handsTo _ _) (by simp)
  | pause => exact owner_passesInRun (guarded_handsTo _ _) fun _ u => handlePause_startsInRun u
  | resume => exact owner_passesInRun (guarded_handsTo _ _) fun _ u => handleResume_startsInRun u
  | park => exact owner_passesInRun (guarded_handsTo _ _) fun _ u => handlePark_startsInRun u
  | wake => exact owner_passesInRun (unguarded_handsTo _ _) fun _ u => handleWake_startsInRun u
  | resetEnable => exact owner_passSteady (guarded_handsTo _ _) fun _ _ => rfl
  | cellReset => exact owner_passSteady (guarded_handsTo _ _) (by simp)
  | cellResetTakesEffect => exact event_passesInRun fun _ => .inr (cellReset_passOutside _)
  | panelPresent sh => exact execPanelPresent_passesInRun sh
  | panelRemoved sh =>
    exact applied_passSteady (f := fun s => panelLeaves sh (setPanelLine sh false s)) (by simp [setPanelLine])
  | shuttleAreaRequest sh => exact event_passSteady (by simp)
  | shuttleInPosition sh req => exact event_passSteady (by simp)
  | shuttleMoveOutComplete sh req => exact event_passSteady (by simp)
  | passCompletion req load overrun => exact execPassCompletion_passesInRun req load overrun
  | cutWatchExpiry => exact event_passesInRun fun _ => cutWatchExpires_startsInRun _
  | interlockActivation line => exact execInterlockActivation_passesInRun line
  | interlockClearing line =>
    exact applied_passSteady (f := fun s => markCell .interlockClear (s.updMode (setInterlock line false))) (by simp)
  | lineHoldAssertion line => exact event_passesInRun fun _ => lineChanges_startsInRun _ line true
  | lineHoldDeassertion line => exact event_passesInRun fun _ => lineChanges_startsInRun _ line false
  | driveFaultEvent g req => exact execDriveFaultEvent_passesInRun g req
  | referencingComplete g req occupied => exact execReferencingComplete_passesInRun g req occupied
  | parkComplete g req => exact event_passesInRun fun _ => groupParked_startsInRun _ g
  | vacuumMade => exact event_passSteady (by simp)
  | vacuumLost => exact event_passSteady (by simp)
  | vacuumWatchExpiry => exact event_passSteady (by simp)
  | approachComplete req => exact event_passSteady (by simp)
  | transferComplete req => exact event_passSteady (by simp)
  | parkWaitComplete req => exact event_passSteady (by simp)
  | lowerComplete req => exact event_passSteady (by simp)
  | returnComplete req => exact event_passSteady (by simp)
  | placeWatchExpiry => exact event_passSteady (by simp)
  | slotSeated b n => exact event_passSteady (by simp)
  | trayEntry => exact event_passSteady (by simp)
  | magazinePresent b => exact event_passSteady (by simp)
  | magazineRemoved b => exact event_passSteady (by simp)
  | latchComplete b req => exact event_passSteady (by simp)
  | changerComplete req => exact execChangerComplete_passesInRun req
  | changerFault req => exact event_passSteady (by simp)
  | changerWatchExpiry => exact event_passSteady (by simp)

/-- Settles O10: what is in flight outside RUN after a command was in flight before it. -/
theorem passStartsOnlyInRun : Obligations.PassStartsOnlyInRun := fun c s t h => (exec_passesInRun c s t h).pass_cases

end Sys2Proof.Machine
end

section
/-! The start tab of a board (R60) and its cut order (R61). -/

namespace Sys2Proof.Machine

/-! ## The start tab (R60) -/

/-- The tab `p` at place `k` is the nearest to the spindle, and nearer than every tab before it. -/
structure NearestAt (sx sy : Nat) (ps : List (Nat × Nat)) (k : Nat) (p : Nat × Nat) : Prop where
  place : ps[k]? = some p
  nearest : ∀ (i : Nat) (q : Nat × Nat), ps[i]? = some q → sqDist p.1 p.2 sx sy ≤ sqDist q.1 q.2 sx sy
  first : ∀ (i : Nat) (q : Nat × Nat), ps[i]? = some q → i < k → sqDist p.1 p.2 sx sy < sqDist q.1 q.2 sx sy

section
variable {sx sy k : Nat} {ps : List (Nat × Nat)} {p x : Nat × Nat}

/-- A tab at a place of a list with one more tab at its end is one of the list, or the one at the end. -/
theorem place_of_append {i : Nat} {q : Nat × Nat} (h : (ps ++ [x])[i]? = some q) :
    ps[i]? = some q ∨ (i = ps.length ∧ q = x) := by
  rw [List.getElem?_append] at h
  split at h
  · exact .inl h
  · rw [List.getElem?_singleton] at h
    split at h
    · exact .inr ⟨by omega, (Option.some.inj h).symm⟩
    · cases h

theorem NearestAt.singleton (sx sy : Nat) (p : Nat × Nat) : NearestAt sx sy [p] 0 p where
  place := rfl
  nearest i q hq := by
    obtain h | ⟨-, rfl⟩ := place_of_append (ps := []) hq
    · cases h
    · exact Nat.le_refl _
  first i q _ hi := absurd hi i.not_lt_zero

/-- A tab that is not nearer leaves the nearest as it is. -/
theorem NearestAt.append_of_le (h : NearestAt sx sy ps k p) (hx : sqDist p.1 p.2 sx sy ≤ sqDist x.1 x.2 sx sy) :
    NearestAt sx sy (ps ++ [x]) k p := by
  have hk : k < ps.length := (List.getElem?_eq_some_iff.mp h.place).1
  refine ⟨by rw [List.getElem?_append_left hk, h.place], fun i q hq => ?_, fun i q hq hi => ?_⟩
  · rcases place_of_append hq with hq | ⟨-, rfl⟩
    · exact h.nearest i q hq
    · exact hx
  · rcases place_of_append hq with hq | ⟨rfl, -⟩
    · exact h.first i q hq hi
    · omega

/-- A tab that is nearer becomes the nearest. -/
theorem NearestAt.append_of_lt (h : NearestAt sx sy ps k p) (hx : sqDist x.1 x.2 sx sy < sqDist p.1 p.2 sx sy) :
    NearestAt sx sy (ps ++ [x]) ps.length x := by
  refine ⟨by simp, fun i q hq => ?_, fun i q hq hi => ?_⟩
  · rcases place_of_append hq with hq | ⟨-, rfl⟩
    · exact Nat.le_trans (Nat.le_of_lt hx) (h.nearest i q hq)
    · exact Nat.le_refl _
  · rcases place_of_append hq with hq | ⟨rfl, -⟩
    · exact Nat.lt_of_lt_of_le hx (h.nearest i q hq)
    · omega

end

/-- The search goes on from the nearest of the tabs looked at so far. -/
theorem nearestFrom_nearestAt (sx sy : Nat) (rest : List (Nat × Nat)) :
    ∀ (ps : List (Nat × Nat)) (k : Nat) (p : Nat × Nat), NearestAt sx sy ps k p →
      ∃ q, NearestAt sx sy (ps ++ rest) (nearestFrom sx sy ps.length (k, sqDist p.1 p.2 sx sy) rest) q := by
  induction rest with
  | nil => exact fun ps k p h => ⟨p, by simpa [nearestFrom] using h⟩
  | cons x rest ih =>
    intro ps k p h
    rw [List.append_cons ps x rest]
    by_cases hx : sqDist x.1 x.2 sx sy < sqDist p.1 p.2 sx sy
    · simpa [nearestFrom, hx] using ih (ps ++ [x]) _ _ (h.append_of_lt hx)
    · simpa [nearestFrom, hx] using ih (ps ++ [x]) _ _ (h.append_of_le (Nat.le_of_not_lt hx))

theorem startTab_nearestAt (sx sy : Nat) {ps : List (Nat × Nat)} (h : ps ≠ []) :
    ∃ p, NearestAt sx sy ps (startTab sx sy ps) p := by
  cases ps with
  | nil => exact absurd rfl h
  | cons p rest => exact nearestFrom_nearestAt sx sy rest [p] 0 p (.singleton sx sy p)

/-! ## The cut order (R61) -/

/-- The ring index at a place of the cut order: `i` tabs on from the start tab in the ring direction. -/
def ringAt (m start : Nat) (ascending : Bool) (i : Nat) : Nat :=
  if ascending then (if start + i < m then start + i else start + i - m)
  else if i ≤ start then start - i else start + m - i

/-- Past the end of the ring by less than a turn, the ring begins again. -/
theorem mod_within_turn {n m : Nat} (h : n < 2 * m) : n % m = if n < m then n else n - m := by
  split
  · exact Nat.mod_eq_of_lt ‹_›
  · rw [Nat.mod_eq_sub_mod (by omega), Nat.mod_eq_of_lt (by omega)]

/-- R61: within a turn no ring index comes twice. -/
theorem ringAt_inj {m start i j : Nat} {ascending : Bool} (hi : i < m) (hj : j < m)
    (he : ringAt m start ascending i = ringAt m start ascending j) : i = j := by
  cases ascending with
  | true => simp only [ringAt, if_true] at he; split at he <;> split at he <;> omega
  | false => simp only [ringAt, Bool.false_eq_true, if_false] at he; split at he <;> split at he <;> omega

section
variable {m start : Nat} (h : start < m) (ascending : Bool)
include h

theorem cutOrder_eq : cutOrder m start ascending = (List.range m).map (ringAt m start ascending) := by
  refine List.map_congr_left fun i hi => ?_
  have him : i < m := List.mem_range.mp hi
  unfold ringAt
  rw [mod_within_turn (by omega), mod_within_turn (by omega)]
  cases ascending with
  | true => simp
  | false => simp only [Bool.false_eq_true, if_false]; split <;> split <;> omega

theorem ringAt_lt {i : Nat} (hi : i < m) : ringAt m start ascending i < m := by
  unfold ringAt; repeat' split
  all_goals omega

theorem ringAt_zero : ringAt m start ascending 0 = start := by cases ascending <;> simp [ringAt, h]

/-- R61: the next place holds the next ring index in the ring direction. -/
theorem ringAt_succ {i : Nat} (hi : i + 1 < m) :
    ringAt m start ascending (i + 1) =
      if ascending then (if ringAt m start ascending i + 1 = m then 0 else ringAt m start ascending i + 1)
      else if ringAt m start ascending i = 0 then m - 1 else ringAt m start ascending i - 1 := by
  cases ascending with
  | true =>
    simp only [ringAt, if_true]; repeat' split
    all_goals omega
  | false =>
    simp only [ringAt, Bool.false_eq_true, if_false]; repeat' split
    all_goals omega

theorem cutOrder_nodup : (cutOrder m start ascending).Nodup := by
  rw [cutOrder_eq h]
  refine List.pairwise_map.mpr (List.Pairwise.imp_of_mem ?_ List.nodup_range)
  exact fun hi hj hne he => hne (ringAt_inj (List.mem_range.mp hi) (List.mem_range.mp hj) he)

theorem cutOrder_getElem? {i a : Nat} :
    (cutOrder m start ascending)[i]? = some a ↔ i < m ∧ ringAt m start ascending i = a := by
  rw [cutOrder_eq h, List.getElem?_map]
  by_cases hi : i < m
  · rw [List.getElem?_range hi, Option.map_some, Option.some.injEq]
    exact (and_iff_right hi).symm
  · rw [List.getElem?_eq_none (by rw [List.length_range]; omega), Option.map_none]
    exact ⟨nofun, fun hc => absurd hc.1 hi⟩

end

/-- Settles O44: the search keeps the first of the nearest tabs; the place `i` of the cut order holds the tab `i` steps on from the
start tab in the ring direction, and no two places hold the same. -/
theorem cutOrderWalksRing : Obligations.CutOrderWalksRing := by
  refine ⟨fun sx sy ps hne => ?_, fun m start ascending h => ⟨?_, cutOrder_nodup h _, fun i hi => ?_, ?_, fun i a b ha hb => ?_⟩⟩
  · obtain ⟨p, hp⟩ := startTab_nearestAt sx sy hne
    exact ⟨p, hp.place, fun i q hq => ⟨hp.nearest i q hq, hp.first i q hq⟩⟩
  · simp [cutOrder]
  · rw [cutOrder_eq h] at hi
    obtain ⟨j, hj, rfl⟩ := List.mem_map.mp hi
    exact ringAt_lt h ascending (List.mem_range.mp hj)
  · exact (cutOrder_getElem? h ascending).mpr ⟨by omega, ringAt_zero h ascending⟩
  · obtain ⟨-, rfl⟩ := (cutOrder_getElem? h ascending).mp ha
    obtain ⟨hi, rfl⟩ := (cutOrder_getElem? h ascending).mp hb
    have hsucc := ringAt_succ h ascending hi
    cases ascending <;> simpa using hsucc

end Sys2Proof.Machine
end

section
/-! SUPPORT. The pass computation (R86 to R94): the ranges of its figures, and what the wear check makes of the segment
table. -/

namespace Sys2Proof.Machine

/-! ## Figures (R87 to R90) -/

/-- A rounded-up quotient is the least number of divisors that reach the dividend. -/
theorem ceilDiv_mul_bounds {a b : Nat} (hb : 1 ≤ b) : a ≤ ceilDiv a b * b ∧ ceilDiv a b * b < a + b := by
  have hmod := Nat.mod_lt (a + (b - 1)) hb
  have hdiv : ceilDiv a b * b + (a + (b - 1)) % b = a + (b - 1) := by
    rw [Nat.mul_comm]; exact Nat.div_add_mod _ _
  omega

theorem pathLength_range {w d o : Nat} (hw : 30 ≤ w ∧ w ≤ 500) (hd : 80 ≤ d ∧ d ≤ 300) (ho : o ≤ 50) :
    110 ≤ pathLength w d o ∧ pathLength w d o ≤ 900 := by
  unfold pathLength; omega

theorem wearDebit_range {len t : Nat} (hlen : 110 ≤ len ∧ len ≤ 900) (ht : 40 ≤ t ∧ t ≤ 320) :
    1 ≤ wearDebit len t ∧ wearDebit len t ≤ 29 := by
  have hlow : 110 * 40 ≤ len * t := Nat.mul_le_mul hlen.1 ht.1
  have hhigh : len * t ≤ 900 * 320 := Nat.mul_le_mul hlen.2 ht.2
  unfold wearDebit ceilDiv; omega

theorem effectiveFeed_range {f : Nat} (hf : 1 ≤ f ∧ f ≤ 100) (k n : Nat) :
    1 ≤ effectiveFeed f k n ∧ effectiveFeed f k n ≤ 100 := by
  unfold effectiveFeed; split <;> omega

theorem passTime_range {len feed : Nat} (hlen : 110 ≤ len ∧ len ≤ 900) (hfeed : 1 ≤ feed ∧ feed ≤ 100) :
    11 ≤ passTime len feed ∧ passTime len feed ≤ 9000 := by
  obtain ⟨hlow, hhigh⟩ : 10 * len ≤ passTime len feed * feed ∧ passTime len feed * feed < 10 * len + feed :=
    ceilDiv_mul_bounds hfeed.1
  refine ⟨Nat.le_of_not_lt fun hless => ?_, Nat.le_of_not_lt fun hmore => ?_⟩
  · have : passTime len feed * feed ≤ 10 * 100 := Nat.mul_le_mul (Nat.le_of_lt_succ hless) hfeed.2
    omega
  · have : 9001 * feed ≤ passTime len feed * feed := Nat.mul_le_mul_right feed hmore
    omega

/-! ## The wear check (R91) -/

/-- R91: a segment that cannot pay is left WORN. -/
def Segment.worn (g : Segment) : Segment := { g with cause := .worn }

/-- R92: the debit is added to the used wear. -/
def Segment.charge (debit : Nat) (g : Segment) : Segment := { g with used := g.used + debit }

/-- R91: the check settles the first segment that holds the debit. -/
theorem wearScan_place (debit : Nat) (l : List Segment) :
    (wearScan debit l).2 = l.findIdx? fun g => decide (debit ≤ g.share - g.used) := by
  induction l with
  | nil => rfl
  | cons g rest ih => by_cases hg : debit ≤ g.share - g.used <;> simp [wearScan, List.findIdx?_cons, hg, ih]

/-- R91: every segment in front of the settled one is left WORN, and every segment where none is settled. -/
theorem wearScan_getElem? (debit : Nat) (l : List Segment) (j : Nat) :
    (wearScan debit l).1[j]? = l[j]?.map fun h => if (wearScan debit l).2.all (j < ·) then h.worn else h := by
  induction l generalizing j with
  | nil => rfl
  | cons g rest ih =>
    by_cases hg : debit ≤ g.share - g.used
    · simp [wearScan, hg]
    · cases j with
      | zero => simp [wearScan, hg, Segment.worn, Option.all_eq_true]
      | succ j => simp [wearScan, hg, ih, Option.all_map]

/-- R91: the segment table after the wear check, which begins in the current segment. -/
def ToolRec.checked (debit : Nat) (t : ToolRec) : List Segment :=
  t.segs.take t.k ++ (wearScan debit (t.segs.drop t.k)).1

/-- R91: of the segments from the current one on, those in front of the settled one are left WORN, or all where none is settled;
the segments before the current one stay. -/
theorem ToolRec.checked_getElem? (debit : Nat) (t : ToolRec) (j : Nat) :
    (t.checked debit)[j]? = t.segs[j]?.map fun h =>
      if t.k ≤ j ∧ (wearScan debit (t.segs.drop t.k)).2.all (j < t.k + ·) then h.worn else h := by
  unfold ToolRec.checked
  rw [List.getElem?_append, List.length_take]
  by_cases hlen : t.segs.length < t.k
  · simp only [List.drop_eq_nil_of_le (Nat.le_of_lt hlen), List.take_of_length_le (Nat.le_of_lt hlen), wearScan]
    by_cases hj : j < t.segs.length
    · rw [if_pos (by omega), List.getElem?_eq_getElem hj, Option.map_some, if_neg (by omega)]
    · simp [List.getElem?_eq_none (Nat.le_of_not_lt hj)]
  · by_cases hj : j < t.k
    · rw [if_pos (by omega), List.getElem?_take_of_lt hj, List.getElem?_eq_getElem (by omega), Option.map_some,
        if_neg (by omega)]
    · have hk : min t.k t.segs.length = t.k := by omega
      obtain ⟨i, rfl⟩ := Nat.exists_eq_add_of_le (Nat.le_of_not_lt hj)
      rw [hk, if_neg hj, Nat.add_sub_cancel_left, wearScan_getElem?, List.getElem?_drop]
      simp only [Nat.le_add_right, true_and, Nat.add_lt_add_iff_left]

/-- R91, R92: the segment table after a grant for the segment `k`. -/
theorem ToolRec.checked_charged {debit i : Nat} {t : ToolRec} (hi : (wearScan debit (t.segs.drop t.k)).2 = some i) :
    (t.checked debit).modify (t.k + i) (Segment.charge debit) = t.segs.mapIdx fun j h =>
      if t.k ≤ j ∧ j < t.k + i then h.worn else if j = t.k + i then h.charge debit else h := by
  refine List.ext_getElem? fun j => ?_
  rw [List.getElem?_modify, ToolRec.checked_getElem?, hi, List.getElem?_mapIdx, Option.map_eq_map, Option.map_map]
  congr 1
  funext h
  by_cases hj : j = t.k + i
  · simp [hj]
  · simp [hj, Ne.symm hj]

/-- R91: the segment table where no segment is settled. -/
theorem ToolRec.checked_worn {debit : Nat} {t : ToolRec} (hn : (wearScan debit (t.segs.drop t.k)).2 = none) :
    t.checked debit = t.segs.mapIdx fun j h => if t.k ≤ j then h.worn else h := by
  refine List.ext_getElem? fun j => ?_
  simp [ToolRec.checked_getElem?, hn]

/-- R91: the place that the check settles holds the first segment that can pay from the current one on. -/
theorem wearScan_some_iff {debit i : Nat} {t : ToolRec} :
    (wearScan debit (t.segs.drop t.k)).2 = some i ↔
      ∃ g, t.segs[t.k + i]? = some g ∧ debit ≤ g.share - g.used ∧
        ∀ j h, t.k ≤ j → j < t.k + i → t.segs[j]? = some h → ¬ debit ≤ h.share - h.used := by
  rw [wearScan_place, List.findIdx?_eq_some_iff_getElem]
  constructor
  · rintro ⟨hi, hpay, hfirst⟩
    refine ⟨_, List.getElem?_drop ▸ List.getElem?_eq_getElem hi, by simpa using hpay, fun j h hk hj hh => ?_⟩
    obtain ⟨m, rfl⟩ := Nat.exists_eq_add_of_le hk
    rw [← List.getElem?_drop] at hh
    obtain ⟨hm, rfl⟩ := List.getElem?_eq_some_iff.mp hh
    simpa using hfirst m (by omega)
  · rintro ⟨g, hg, hpay, hfirst⟩
    rw [← List.getElem?_drop] at hg
    obtain ⟨hi, rfl⟩ := List.getElem?_eq_some_iff.mp hg
    refine ⟨hi, by simpa using hpay, fun m hm => ?_⟩
    have hlt : m < (t.segs.drop t.k).length := by omega
    have hh := List.getElem?_eq_getElem hlt
    rw [List.getElem?_drop] at hh
    simpa using hfirst (t.k + m) _ (by omega) (by omega) hh

/-- R91: the check settles no segment where none can pay from the current one on. -/
theorem wearScan_none_iff {debit : Nat} {t : ToolRec} :
    (wearScan debit (t.segs.drop t.k)).2 = none ↔
      ∀ j h, t.k ≤ j → t.segs[j]? = some h → ¬ debit ≤ h.share - h.used := by
  rw [wearScan_place, List.findIdx?_eq_none_iff]
  constructor
  · intro hall j h hk hh
    obtain ⟨m, rfl⟩ := Nat.exists_eq_add_of_le hk
    rw [← List.getElem?_drop] at hh
    simpa using hall h (List.mem_of_getElem? hh)
  · intro hall h hmem
    obtain ⟨m, hm⟩ := List.mem_iff_getElem?.mp hmem
    rw [List.getElem?_drop] at hm
    simpa using hall (t.k + m) h (by omega) hm

/-! ## The grant (R86, R92) and the expiry (R98) -/

variable {s : State} {ask : PassAsk} {d : BitDesc}

/-- The debit of a pass that is asked for with a bit (R87, R90). -/
def PassAsk.debit (ask : PassAsk) (d : BitDesc) : Nat := wearDebit (pathLength ask.w d.d ask.recipe.o) ask.recipe.t

/-- R86, R92: the check settles a segment, which is charged. -/
theorem askPass_granted {i : Nat} (hf : s.tool.state = .fitted) (hd : s.tool.desc = some d)
    (hi : (wearScan (ask.debit d) (s.tool.segs.drop s.tool.k)).2 = some i) :
    askPass ask s =
      (s.updTool fun t =>
        { t with
          segs := (t.checked (ask.debit d)).modify (t.k + i) (Segment.charge (ask.debit d))
          k := t.k + i, charged := t.charged + 1 },
       some (grantFor ask d (s.tool.k + i) s.tool.n)) := by
  simp only [PassAsk.debit] at hi
  simp only [askPass, hf, hd, hi]
  rfl

/-- R91, R98: the check settles no segment, and the bit expires. -/
theorem askPass_refused (hf : s.tool.state = .fitted) (hd : s.tool.desc = some d)
    (hn : (wearScan (ask.debit d) (s.tool.segs.drop s.tool.k)).2 = none) :
    askPass ask s =
      (expireBit .expiredWorn (s.updTool fun t => { t with segs := t.checked (ask.debit d), k := t.n - 1 }), none) := by
  simp only [PassAsk.debit] at hn
  simp only [askPass, hf, hd, hn]
  rfl

/-- With no bit fitted nothing is granted and nothing changes (R86). -/
theorem askPass_unfitted (h : ∀ d, ¬ (s.tool.state = .fitted ∧ s.tool.desc = some d)) : askPass ask s = (s, none) := by
  unfold askPass
  split
  · rename_i d hf hd
    exact absurd ⟨hf, hd⟩ (h d)
  · rfl

/-- R98: the fitted-bit record of a bit that has expired. -/
def ToolRec.expired (t : ToolRec) : ToolRec :=
  { t with segs := t.segs.map closeSegment, hardCount := 0, state := .expired }

/-- R98, R120: the expired bit is changed for the rack's head, or its expiry is flagged and reported. -/
theorem expireBit_eq (c : ToolCause) :
    expireBit c s =
      (changeEntry? (s.updTool ToolRec.expired)).elim (toolReport c (raiseFlag .toolExpired (s.updTool ToolRec.expired)))
        (decideChange c · (s.updTool ToolRec.expired)) := by
  unfold expireBit
  dsimp only
  split
  · rename_i e h
    rw [show changeEntry? (s.updTool ToolRec.expired) = some e from h]
    rfl
  · rename_i h
    rw [show changeEntry? (s.updTool ToolRec.expired) = none from h]
    rfl

/-- R120: the record of a bit that is to be changed, before the change starts. -/
def ToolRec.changing (entry : BitDesc) (t : ToolRec) : ToolRec :=
  { t with state := .changing, op := some { phase := .waiting, entry := entry, attempts := 0, req := none } }

@[simp] theorem toolReport_tool (c : ToolCause) : (toolReport c s).tool = s.tool := queueReport_tool s _
@[simp] theorem toolReport_drive (c : ToolCause) : (toolReport c s).drive = s.drive := queueReport_drive s _
@[simp] theorem toolReport_flags (c : ToolCause) : (toolReport c s).link.flags = s.link.flags := queueReport_flags s _
@[simp] theorem toolReport_sent (c : ToolCause) : (toolReport c s).out.sent = s.out.sent := queueReport_sent s _
@[simp] theorem raiseFlag_tool (x : Flag) : (raiseFlag x s).tool = s.tool := by unfold raiseFlag; split <;> simp
@[simp] theorem raiseFlag_drive (x : Flag) : (raiseFlag x s).drive = s.drive := by unfold raiseFlag; split <;> simp

/-- R121: outside RUN the change waits. -/
theorem decideChange_waits (c : ToolCause) (e : BitDesc) (h : s.mode.mode ≠ .run) :
    decideChange c e s = toolReport c (s.updTool (ToolRec.changing e)) := by
  simp only [decideChange, startChanger, toolReport, queueReport_tool, queueReport_mode, State.updTool_tool, State.updTool_mode,
    h, and_false, if_false]
  rfl

/-- R121: in RUN the change is requested of BAY DRIVE at once. -/
theorem decideChange_requested (c : ToolCause) (e : BitDesc) (h : s.mode.mode = .run) :
    decideChange c e s =
      toolReport .changeStarted
        ((sendRequest .bay (.toolChange e) (toolReport c (s.updTool (ToolRec.changing e)))).updTool fun t =>
          { t with op := some { phase := .moving, entry := e, attempts := 1, req := some s.drive.bay } }) := by
  simp only [decideChange, startChanger, toolReport, queueReport_tool, queueReport_mode, State.updTool_tool, State.updTool_mode,
    h, nextReq, queueReport_drive, State.updTool_drive]
  rfl

/-- R206: a flag that is raised is set. -/
theorem raiseFlag_flags_get (x : Flag) : (raiseFlag x s).link.flags.get x = true := by
  unfold raiseFlag
  split
  · assumption
  · cases x <;> simp [FlagSet.raise, FlagSet.ofTest, FlagSet.get]

end Sys2Proof.Machine
end

section
/-! The figures of a pass (R86 to R94) and the expiry of a bit in the wear check (R91, R98). -/

namespace Sys2Proof.Machine

variable {s : State} {ask : PassAsk} {d : BitDesc}

/-- R91, R98: the record of a bit that no segment of which can pay: those from the current one on are WORN, and those before it
closed. -/
def ToolRec.spent (t : ToolRec) : ToolRec :=
  { t with
    segs := t.segs.mapIdx fun i h =>
      if t.k ≤ i then { h with cause := .worn }
      else if h.cause = .opened then { h with cause := .expired } else h
    k := t.n - 1, hardCount := 0, state := .expired }

theorem ToolRec.checked_closed {debit : Nat} {t : ToolRec} (hn : (wearScan debit (t.segs.drop t.k)).2 = none) :
    ToolRec.expired { t with segs := t.checked debit, k := t.n - 1 } = t.spent := by
  have hsegs : (t.checked debit).map closeSegment = t.spent.segs := by
    refine List.ext_getElem? fun i => ?_
    simp only [ToolRec.checked_worn hn, ToolRec.spent, List.getElem?_map, List.getElem?_mapIdx, Option.map_map]
    congr 1
    funext h
    by_cases hi : t.k ≤ i
    · simp [hi, closeSegment, Segment.worn]
    · simp [hi, closeSegment]
  simp only [ToolRec.expired, hsegs]
  rfl

/-- R91, R98, R120: with no segment settled the bit has expired, and is changed for the rack's head or its expiry flagged and
reported. -/
theorem askPass_spent (hf : s.tool.state = .fitted) (hd : s.tool.desc = some d)
    (hn : (wearScan (ask.debit d) (s.tool.segs.drop s.tool.k)).2 = none) :
    askPass ask s =
      ((changeEntry? (s.updTool ToolRec.spent)).elim
        (toolReport .expiredWorn (raiseFlag .toolExpired (s.updTool ToolRec.spent)))
        (decideChange .expiredWorn · (s.updTool ToolRec.spent)), none) := by
  have hspent : (s.updTool fun t => { t with segs := t.checked (ask.debit d), k := t.n - 1 }).updTool ToolRec.expired =
      s.updTool ToolRec.spent := by
    simp only [State.updTool, ToolRec.checked_closed hn]
  rw [askPass_refused hf hd hn, expireBit_eq, hspent]

theorem changeEntry?_spent (hc : s.mode.options.changer = true) :
    changeEntry? (s.updTool ToolRec.spent) = s.tool.rack.head? := by simp [changeEntry?, ToolRec.spent, hc]

theorem changeEntry?_spent_none (h : s.mode.options.changer = false ∨ s.tool.rack = []) :
    changeEntry? (s.updTool ToolRec.spent) = none := by
  rcases h with h | h <;> simp [changeEntry?, ToolRec.spent, h]

/-- R86 to R90, R93, R94: the figures of a grant within the ranges of R99. -/
theorem grantFor_figures (hd : d.inRange) (hr : ask.recipe.inRange) (hw : 30 ≤ ask.w ∧ ask.w ≤ 500) (k n : Nat) :
    let g := grantFor ask d k n
    10 * g.pathLen ≤ g.time * g.feed ∧ g.time * g.feed < 10 * g.pathLen + g.feed ∧ 11 ≤ g.time ∧ g.time ≤ 9000 := by
  obtain ⟨hbit, -⟩ := hd
  obtain ⟨-, -, -, -, -, hfeed, ho, -⟩ := hr
  have hf := effectiveFeed_range hfeed k n
  obtain ⟨hlow, hhigh⟩ := ceilDiv_mul_bounds (a := 10 * pathLength ask.w d.d ask.recipe.o) hf.1
  exact ⟨hlow, hhigh, passTime_range (pathLength_range hw hbit ho) hf⟩

/-- Settles O45: the wear check settles the first segment that can pay, whose figures are the grant's, or none, and the bit
expires. -/
theorem passFigures : Obligations.PassFigures := by
  intro s ask d hf hd hbit hrec hw _ len debit pays
  have hfigures := fun k => grantFor_figures hbit hrec hw k s.tool.n
  obtain ⟨hdiameter, -⟩ := hbit
  obtain ⟨-, -, -, hthick, -, -, hover, -⟩ := hrec
  have hlen : 110 ≤ len ∧ len ≤ 900 := pathLength_range hw hdiameter hover
  have hdebit : 1 ≤ debit ∧ debit ≤ 29 := wearDebit_range hlen hthick
  refine ⟨hlen.1, hlen.2, hdebit.1, hdebit.2, fun k g hk hg hpay hfirst => ?_, fun hnone => ?_⟩
  · intro feed z
    obtain ⟨i, rfl⟩ := Nat.exists_eq_add_of_le hk
    have hi : (wearScan (ask.debit d) (s.tool.segs.drop s.tool.k)).2 = some i :=
      wearScan_some_iff.mpr ⟨g, hg, hpay, hfirst⟩
    obtain ⟨hlow, hhigh, htime⟩ := hfigures (s.tool.k + i)
    refine ⟨grantFor ask d (s.tool.k + i) s.tool.n, rfl, rfl, rfl, rfl, hlow, hhigh, htime.1, htime.2, rfl, rfl, ?_, ?_⟩
    · exact decide_eq_true_iff
    · rw [askPass_granted hf hd hi]
      simp only [State.updTool, ToolRec.checked_charged hi]
      rfl
  · intro worn
    have hn : (wearScan (ask.debit d) (s.tool.segs.drop s.tool.k)).2 = none := wearScan_none_iff.mpr hnone
    rw [askPass_spent hf hd hn]
    refine ⟨rfl, fun h => ?_, fun e rack hc hrack => ?_⟩
    · rw [changeEntry?_spent_none h, Option.elim_none]
      refine ⟨?_, ?_, ?_⟩
      · rw [toolReport_tool, raiseFlag_tool]; rfl
      · rw [toolReport_flags]; exact raiseFlag_flags_get .toolExpired
      · rw [toolReport_drive, raiseFlag_drive]; rfl
    · intro op
      have hentry : changeEntry? (s.updTool ToolRec.spent) = some e := by rw [changeEntry?_spent hc, hrack]; rfl
      rw [hentry, Option.elim_some]
      refine ⟨fun hm => ?_, fun hm => ?_⟩
      · rw [decideChange_waits (s := s.updTool _) _ _ hm, toolReport_tool, toolReport_drive]
        exact ⟨rfl, rfl⟩
      · rw [decideChange_requested (s := s.updTool _) _ _ hm, toolReport_tool, toolReport_drive, toolReport_sent]
        simp only [State.updTool_tool, State.updTool_drive, State.updTool_out, sendRequest_tool, sendRequest_drive,
          sendRequest_out, toolReport_tool, toolReport_drive, toolReport_sent]
        exact ⟨rfl, rfl, rfl⟩

end Sys2Proof.Machine
end

section
/-! SUPPORT. The wear of the fitted bit (R85): what keeps each segment's used wear within its share and the shares equal to
the bit life, record by record. -/

namespace Sys2Proof.Machine

/-- R85, of the fitted-bit record alone. -/
def ToolRec.wearOk (t : ToolRec) : Prop :=
  (∀ g ∈ t.segs, g.used ≤ g.share) ∧ t.desc.elim (t.segs = []) fun d => total (t.segs.map (·.share)) = d.lb

theorem wearOk_iff (s : State) : WearOk s ↔ s.tool.wearOk := by
  unfold WearOk ToolRec.wearOk
  cases s.tool.desc <;> rfl

/-! ## The totals (R85, R100) -/

/-- R85: what a segment has used, forfeits and has left is its share. -/
theorem Segment.wear_total {g : Segment} (h : g.used ≤ g.share) : g.used + g.forfeit + g.remaining = g.share := by
  unfold Segment.forfeit Segment.remaining
  split <;> omega

theorem wearTotals_eq {l : List Segment} (h : ∀ g ∈ l, g.used ≤ g.share) :
    usedTotal l + forfeitTotal l + remainingTotal l = total (l.map (·.share)) := by
  induction l with
  | nil => rfl
  | cons g rest ih =>
    have hg := Segment.wear_total (h g (List.mem_cons_self ..))
    have hrest := ih fun x hx => h x (List.mem_cons_of_mem _ hx)
    simp only [usedTotal, forfeitTotal, remainingTotal, List.map_cons, total_cons] at hrest ⊢
    omega

/-- R85: with a bit known, used wear, forfeits and remaining wear give the bit life. -/
theorem ToolRec.wearOk.totals {t : ToolRec} {d : BitDesc} (h : t.wearOk) (hd : t.desc = some d) :
    usedTotal t.segs + forfeitTotal t.segs + remainingTotal t.segs = d.lb := by
  obtain ⟨hused, hshares⟩ := h
  rw [hd] at hshares
  exact (wearTotals_eq hused).trans hshares

/-! ## Lists of segments -/

/-- A change of one place leaves a view of the list that does not see the change. -/
theorem map_modify_unseen {α β : Type} (l : List α) (m : Nat) {f : α → α} {view : α → β} (h : ∀ x, view (f x) = view x) :
    (l.modify m f).map view = l.map view := by
  induction l generalizing m with
  | nil => simp
  | cons x rest ih => cases m <;> simp [h, ih]

/-- A change of one place keeps what holds of every entry, if it keeps it of that place. -/
theorem forall_mem_modify_iff {α : Type} {f : α → α} {p : α → Prop} {l : List α} {m : Nat}
    (h : ∀ x, l[m]? = some x → (p (f x) ↔ p x)) : (∀ x ∈ l.modify m f, p x) ↔ ∀ x ∈ l, p x := by
  induction l generalizing m with
  | nil => simp
  | cons x rest ih =>
    cases m with
    | zero => simp [h x rfl]
    | succ m => simp [ih (m := m) h]

theorem total_append (l m : List Nat) : total (l ++ m) = total l + total m := by
  induction l with
  | nil => simp
  | cons n l ih => simp [ih, Nat.add_assoc]

theorem total_replicate (n q : Nat) : total (List.replicate n q) = n * q := by
  induction n with
  | zero => simp
  | succ n ih => simp [List.replicate_succ, ih, Nat.add_mul, Nat.add_comm]

/-! ## What the wear depends on -/

/-- The share and the used wear of a segment. -/
def Segment.wear (g : Segment) : Nat × Nat := (g.share, g.used)

/-- R85 asks nothing of a segment but its share and used wear, and nothing of the record but its bit. -/
theorem ToolRec.wearOk_congr {t u : ToolRec} (hsegs : u.segs.map Segment.wear = t.segs.map Segment.wear)
    (hdesc : u.desc = t.desc) : u.wearOk ↔ t.wearOk := by
  have hview : ∀ x : ToolRec, x.wearOk ↔ (∀ p ∈ x.segs.map Segment.wear, p.2 ≤ p.1) ∧
      x.desc.elim (x.segs.map Segment.wear = []) fun d => total ((x.segs.map Segment.wear).map (·.1)) = d.lb := fun x => by
    cases hx : x.desc <;> simp [ToolRec.wearOk, Segment.wear, hx, Function.comp_def]
  rw [hview, hview, hsegs, hdesc]

/-- A record with the same segments and the same bit. -/
theorem ToolRec.wearOk_same {t u : ToolRec} (hsegs : u.segs = t.segs) (hdesc : u.desc = t.desc) : u.wearOk ↔ t.wearOk :=
  ToolRec.wearOk_congr (congrArg _ hsegs) hdesc

/-- R98: a bit that expires keeps its wear. -/
@[simp] theorem ToolRec.expired_wearOk (t : ToolRec) : t.expired.wearOk ↔ t.wearOk := by
  have hclose : ∀ g, (closeSegment g).wear = g.wear := fun g => by unfold closeSegment; split <;> rfl
  refine ToolRec.wearOk_congr ?_ rfl
  simp [ToolRec.expired, Function.comp_def, hclose]

/-- R96, R97: a segment that is left HARD keeps its wear. -/
theorem ToolRec.leftHard_wearOk (t : ToolRec) (k : Nat) :
    { t with segs := t.segs.modify k fun g => { g with cause := .hard } }.wearOk ↔ t.wearOk :=
  ToolRec.wearOk_congr (map_modify_unseen _ _ (by intro; rfl)) rfl

/-- R91: the wear check keeps the wear. -/
theorem ToolRec.checked_wear (debit : Nat) (t : ToolRec) :
    (t.checked debit).map Segment.wear = t.segs.map Segment.wear := by
  refine List.ext_getElem? fun j => ?_
  rw [List.getElem?_map, List.getElem?_map, ToolRec.checked_getElem?, Option.map_map]
  congr 1
  funext g
  simp only [Function.comp_apply]
  split <;> rfl

/-- R91, R92: a debit that its segment holds keeps the used wear within the share. -/
theorem Segment.charge_within {g : Segment} {debit : Nat} (h : debit ≤ g.share - g.used) :
    (g.charge debit).used ≤ (g.charge debit).share ↔ g.used ≤ g.share := by
  show g.used + debit ≤ g.share ↔ _
  omega

/-- R92: the charge of a segment that holds the debit keeps the wear. -/
theorem ToolRec.charged_wearOk {t u : ToolRec} {m debit : Nat} (hsegs : u.segs = t.segs.modify m (Segment.charge debit))
    (hdesc : u.desc = t.desc) (hpay : ∀ g, t.segs[m]? = some g → debit ≤ g.share - g.used) : u.wearOk ↔ t.wearOk := by
  have hshare : u.segs.map (·.share) = t.segs.map (·.share) :=
    hsegs ▸ map_modify_unseen _ _ (by intro; rfl)
  have hused : (∀ g ∈ u.segs, g.used ≤ g.share) ↔ ∀ g ∈ t.segs, g.used ≤ g.share :=
    hsegs ▸ forall_mem_modify_iff fun g hg => Segment.charge_within (hpay g hg)
  have hnil : u.segs = [] ↔ t.segs = [] := by rw [hsegs]; simp
  simp only [ToolRec.wearOk, hused, hshare, hdesc, hnil]

/-! ## Bits fitted and cleared (R82, R84) -/

/-- R84: the shares of a bit add to its life. -/
theorem segmentShares_total (d : BitDesc) : total (segmentShares d) = d.lb := by
  have hq : (segmentCount d - 1) * (d.lb / segmentCount d) ≤ d.lb :=
    Nat.le_trans (Nat.mul_le_mul_right _ (Nat.sub_le _ _)) (Nat.mul_div_le _ _)
  simp only [segmentShares, total_append, total_replicate, total_cons, total_nil]
  omega

/-- R84: a bit just fitted has used nothing. -/
@[simp] theorem fitBit_wearOk (d : BitDesc) (t : ToolRec) : (fitBit d t).wearOk := by
  constructor
  · intro g hg
    obtain ⟨share, -, rfl⟩ := List.mem_map.mp hg
    exact Nat.zero_le _
  · simp [fitBit, Function.comp_def, segmentShares_total]

/-- R82: with no bit there is no segment. -/
@[simp] theorem clearBit_wearOk (t : ToolRec) : (clearBit t).wearOk := ⟨nofun, rfl⟩

/-! ## The Tool Monitor's operations -/

variable (s : State)

/-- R121: the start of a change touches the operation alone. -/
@[simp] theorem startChanger_wearOk : (startChanger s).tool.wearOk ↔ s.tool.wearOk := by
  unfold startChanger
  split
  · rfl
  · dsimp only
    split
    · rw [toolReport_tool]
      exact ToolRec.wearOk_same rfl rfl
    · rfl

/-- R120: the decision to change touches the bit state and the operation. -/
@[simp] theorem decideChange_wearOk (c : ToolCause) (e : BitDesc) : (decideChange c e s).tool.wearOk ↔ s.tool.wearOk := by
  simp only [decideChange, startChanger_wearOk, toolReport_tool]
  exact ToolRec.wearOk_same rfl rfl

@[simp] theorem tryChange_wearOk (c : ToolCause) : (tryChange c s).tool.wearOk ↔ s.tool.wearOk := by
  unfold tryChange; split <;> simp

@[simp] theorem expireBit_wearOk (c : ToolCause) : (expireBit c s).tool.wearOk ↔ s.tool.wearOk := by
  rw [expireBit_eq]
  cases changeEntry? (s.updTool ToolRec.expired) <;> simp

/-- R91, R92, R98: a grant charges a segment that holds the debit, and a refusal closes segments. -/
@[simp] theorem askPass_wearOk (ask : PassAsk) : (askPass ask s).1.tool.wearOk ↔ s.tool.wearOk := by
  by_cases hfit : ∃ d, s.tool.state = .fitted ∧ s.tool.desc = some d
  · obtain ⟨d, hf, hd⟩ := hfit
    have hchecked : ({ s.tool with segs := s.tool.checked (ask.debit d) } : ToolRec).wearOk ↔ s.tool.wearOk :=
      ToolRec.wearOk_congr (ToolRec.checked_wear _ _) rfl
    cases hscan : (wearScan (ask.debit d) (s.tool.segs.drop s.tool.k)).2 with
    | none =>
      rw [askPass_refused hf hd hscan, expireBit_wearOk, ← hchecked]
      exact ToolRec.wearOk_same rfl rfl
    | some i =>
      rw [askPass_granted hf hd hscan, ← hchecked]
      refine ToolRec.charged_wearOk rfl rfl fun g hg => ?_
      obtain ⟨h, hh, hpay, -⟩ := wearScan_some_iff.mp hscan
      simp only [ToolRec.checked_getElem?, hscan, hh, Option.map_some, Option.some.injEq] at hg
      subst hg
      simpa using hpay
  · rw [askPass_unfitted fun d hd => hfit ⟨d, hd⟩]

/-- R95 to R97: an outcome changes leave causes, the current segment and the HARD count. -/
@[simp] theorem toolOutcome_wearOk (c : LoadClass) : (toolOutcome c s).tool.wearOk ↔ s.tool.wearOk := by
  cases c with
  | clean => exact ToolRec.wearOk_same rfl rfl
  | shallow => exact ToolRec.wearOk_same rfl rfl
  | hard =>
    rw [← ToolRec.leftHard_wearOk s.tool s.tool.k]
    simp only [toolOutcome]
    split
    · split
      · exact ToolRec.wearOk_same rfl rfl
      · exact expireBit_wearOk _ _
    · exact expireBit_wearOk _ _

/-- R124: a halted change touches the operation alone. -/
@[simp] theorem haltChanger_wearOk : (haltChanger s).tool.wearOk ↔ s.tool.wearOk := by
  unfold haltChanger
  split
  · split
    · rw [toolReport_tool]
      exact ToolRec.wearOk_same rfl rfl
    · rfl
  · rfl

/-- R123: a failed change leaves no bit. -/
@[simp] theorem failChanger_wearOk (c : ToolCause) : (failChanger c s).tool.wearOk := by simp [failChanger]

/-- R119: a bit that is racked touches the rack, and may begin a change. -/
@[simp] theorem addToRack_wearOk (d : BitDesc) : (addToRack d s).tool.wearOk ↔ s.tool.wearOk := by
  have hrack : (s.updTool fun t => { t with rack := t.rack ++ [d] }).tool.wearOk ↔ s.tool.wearOk :=
    ToolRec.wearOk_same rfl rfl
  unfold addToRack
  dsimp only
  split
  · rw [decideChange_wearOk, hrack]
  · rw [toolReport_tool, hrack]

/-- R125: CELL RESET ends a change that is in progress, with no bit, and touches the operation alone otherwise. -/
theorem resetToolState_wearOk (h : s.tool.wearOk) : (resetToolState s).tool.wearOk := by
  unfold resetToolState
  split
  · simp
  · exact (ToolRec.wearOk_same rfl rfl).mpr h

end Sys2Proof.Machine
end

section
/-! SUPPORT. The operations that leave the Tool Monitor's record alone, in the order of the model's files. -/

namespace Sys2Proof.Machine

variable (s : State)

/-- A fold of steps that leave the Tool Monitor alone leaves it alone. -/
theorem foldl_tool {α : Type} (f : State → α → State) (hf : ∀ s x, (f s x).tool = s.tool) (l : List α) :
    ∀ s : State, (l.foldl f s).tool = s.tool := by
  induction l with
  | nil => exact fun _ => rfl
  | cons x rest ih => exact fun s => (ih (f s x)).trans (hf s x)

@[simp] theorem markCell_tool (e : CellEvent) : (markCell e s).tool = s.tool := rfl

@[simp] theorem placeCellState_tool : (placeCellState s).tool = s.tool := by
  unfold placeCellState; repeat' split
  all_goals simp

/-! ## The Job List and the Shuttle Controller -/

@[simp] theorem reportJob_tool (tag : Nat) : (reportJob tag s).tool = s.tool := by unfold reportJob; split <;> simp

@[simp] theorem jobEvent_tool (tag : Nat) (e : JobEvent) (f : Job → Job) : (jobEvent tag e f s).tool = s.tool := by
  unfold jobEvent; repeat' split
  all_goals simp

@[simp] theorem removeJob_tool (tag : Nat) (l : LeaveListCause) : (removeJob tag l s).tool = s.tool := by
  unfold removeJob; split <;> simp

@[simp] theorem reportBoard_tool (tag i : Nat) : (reportBoard tag i s).tool = s.tool := by
  unfold reportBoard; split <;> simp

@[simp] theorem moveBoard_tool (tag i : Nat) (e : BoardEvent) : (moveBoard tag i e s).1.tool = s.tool := by
  unfold moveBoard; split
  · rfl
  · dsimp only; split <;> simp

@[simp] theorem bindJob_tool (sh : Shuttle) (tag : Nat) : (bindJob sh tag s).tool = s.tool := by simp [bindJob]

@[simp] theorem grantArea_tool (sh : Shuttle) : (grantArea sh s).tool = s.tool := by simp [grantArea]

@[simp] theorem arbiterTest_tool : (arbiterTest s).tool = s.tool := by
  unfold arbiterTest; repeat' split
  all_goals simp

@[simp] theorem askArea_tool (sh : Shuttle) : (askArea sh s).tool = s.tool := by unfold askArea; split <;> simp

@[simp] theorem startMoveOut_tool (sh : Shuttle) : (startMoveOut sh s).tool = s.tool := by
  unfold startMoveOut; split <;> simp

@[simp] theorem askMoveOut_tool (sh : Shuttle) : (askMoveOut sh s).tool = s.tool := by simp [askMoveOut]

@[simp] theorem repeatMove_tool (sh : Shuttle) : (repeatMove sh s).tool = s.tool := by
  unfold repeatMove; dsimp only; split <;> simp

@[simp] theorem shuttlesEnterRun_tool : (shuttlesEnterRun s).tool = s.tool := by simp [shuttlesEnterRun]

@[simp] theorem unbindJob_tool (tag : Nat) : (unbindJob tag s).tool = s.tool := by simp [unbindJob]

/-! ## The Bay Controller -/

@[simp] theorem bayReport_tool (b : Bay) (c : BayCause) : (bayReport b c s).tool = s.tool := by simp [bayReport]

@[simp] theorem magazineReport_tool (b : Bay) (u : Bool) : (magazineReport b u s).tool = s.tool := by
  unfold magazineReport; split <;> simp

@[simp] theorem openLatch_tool (b : Bay) : (openLatch b s).tool = s.tool := by unfold openLatch; split <;> simp

@[simp] theorem openHeldLatch_tool (b : Bay) : (openHeldLatch b s).tool = s.tool := by unfold openHeldLatch; split <;> simp

@[simp] theorem releaseBay_tool (b : Bay) : (releaseBay b s).tool = s.tool := by simp [releaseBay]

@[simp] theorem askSwap_tool (b : Bay) (m : SwapMark) : (askSwap b m s).tool = s.tool := by
  unfold askSwap; dsimp only; split <;> simp

@[simp] theorem autoSwapTest_tool (b : Bay) : (autoSwapTest b s).tool = s.tool := by unfold autoSwapTest; split <;> simp

@[simp] theorem drainTest_tool (b : Bay) : (drainTest b s).tool = s.tool := by unfold drainTest; split <;> simp

@[simp] theorem mapSlots_tool (b : Bay) (f : List Slot → List Slot) : (mapSlots b f s).tool = s.tool := rfl

@[simp] theorem reserveRun_tool (b : Bay) (n : Nat) (r : RunHead) : (reserveRun b n r s).tool = s.tool := by simp [reserveRun]

@[simp] theorem occupyRun_tool (b : Bay) (n : Nat) : (occupyRun b n s).tool = s.tool := rfl

@[simp] theorem blockRun_tool (b : Bay) (n : Nat) : (blockRun b n s).tool = s.tool := rfl

@[simp] theorem freeRun_tool (b : Bay) (n c : Nat) : (freeRun b n c s).tool = s.tool := by simp [freeRun]

/-! ## Boards -/

@[simp] theorem giveUpJob_tool (tag : Nat) : (giveUpJob tag s).tool = s.tool := by unfold giveUpJob; split <;> simp

@[simp] theorem finishAtArea_tool (b : Option Shuttle) : (finishAtArea b s).tool = s.tool := by
  unfold finishAtArea; split <;> simp

@[simp] theorem completeJob_tool (tag : Nat) : (completeJob tag s).tool = s.tool := by
  unfold completeJob; repeat' split
  all_goals simp

@[simp] theorem boardEvent_tool (tag i : Nat) (e : BoardEvent) : (boardEvent tag i e s).tool = s.tool := by
  have h := moveBoard_tool s tag i e
  unfold boardEvent; split
  · split <;> simp_all
  · simp_all

@[simp] theorem leaveHoldList_tool (tag i : Nat) : (leaveHoldList tag i s).tool = s.tool := rfl

@[simp] theorem leaveCurrent_tool (tag i : Nat) : (leaveCurrent tag i s).tool = s.tool := rfl

/-! ## The Pick Controller -/

@[simp] theorem startMotion_tool (k : MotionKind) : (startMotion k s).tool = s.tool := by unfold startMotion; split <;> simp

@[simp] theorem startHeldMotion_tool : (startHeldMotion s).tool = s.tool := by
  unfold startHeldMotion; repeat' split
  all_goals simp

@[simp] theorem serveTest_tool : (serveTest s).tool = s.tool := by
  unfold serveTest; repeat' split
  all_goals simp

@[simp] theorem requestHold_tool (tag i : Nat) : (requestHold tag i s).tool = s.tool := by simp [requestHold]

@[simp] theorem returnEmpty_tool : (returnEmpty s).tool = s.tool := by simp [returnEmpty]

@[simp] theorem settleHead_tool : (settleHead s).tool = s.tool := by simp [settleHead]

@[simp] theorem confirmRun_tool (b : Bay) (r : Run) : (confirmRun b r s).tool = s.tool := by
  unfold confirmRun; dsimp only; split <;> simp

@[simp] theorem confirmTray_tool : (confirmTray s).tool = s.tool := by unfold confirmTray; dsimp only; split <;> simp

@[simp] theorem loseBoard_tool : (loseBoard s).tool = s.tool := by unfold loseBoard; split <;> simp

@[simp] theorem losePlacement_tool : (losePlacement s).tool = s.tool := by
  unfold losePlacement; dsimp only; split <;> simp

/-! ## The Claim Router -/

@[simp] theorem applyAnswer_tool (r : BoardRef) (a : Answer) : (applyAnswer r a s).tool = s.tool := by
  unfold applyAnswer; dsimp only; repeat' split
  all_goals simp

@[simp] theorem routeBoard_tool (r : BoardRef) : (routeBoard r s).tool = s.tool := by
  unfold routeBoard; dsimp only; split <;> simp

@[simp] theorem retryWait_tool : (retryWait s).tool = s.tool := by
  unfold retryWait; dsimp only; repeat' split
  all_goals simp

@[simp] theorem releaseDestination_tool (r : BoardRef) (d : Destination) : (releaseDestination r d s).tool = s.tool := by
  unfold releaseDestination; dsimp only; split <;> simp

@[simp] theorem dropCarried_tool (r : BoardRef) : (dropCarried r s).tool = s.tool := by simp [dropCarried]

/-! ## The Cut Sequencer, and abandonment -/

@[simp] theorem requestPass_tool (tag i ring : Nat) (held : Bool) (p : Nat) (d : Axis) (g : Grant) :
    (requestPass tag i ring held p d g s).tool = s.tool := by
  unfold requestPass; dsimp only; repeat' split
  all_goals simp

@[simp] theorem enterHoldList_tool (tag i : Nat) : (enterHoldList tag i s).tool = s.tool := by simp [enterHoldList]

@[simp] theorem takeBoard_tool (tag i : Nat) : (takeBoard tag i s).tool = s.tool := by simp [takeBoard]

@[simp] theorem stallOrFinish_tool : (stallOrFinish s).tool = s.tool := rfl

@[simp] theorem holdEntry_tool (tag i : Nat) : (holdEntry tag i s).tool = s.tool := by unfold holdEntry; split <;> simp

@[simp] theorem releaseAbandoned_tool (r : BoardRef) : (releaseAbandoned r s).tool = s.tool := by
  unfold releaseAbandoned; split <;> simp

@[simp] theorem abandonBoard_tool (tag i : Nat) : (abandonBoard tag i s).tool = s.tool := by
  have h := moveBoard_tool s tag i .abandoned
  unfold abandonBoard; split <;> simp_all

@[simp] theorem abandonBoards_tool (tag : Nat) : (abandonBoards tag s).tool = s.tool := by
  unfold abandonBoards; split
  · exact foldl_tool _ (by simp) _ _
  · rfl

@[simp] theorem abandonIfWithdrawing_tool (tag : Nat) : (abandonIfWithdrawing tag s).tool = s.tool := by
  unfold abandonIfWithdrawing; repeat' split
  all_goals simp

@[simp] theorem interruptPass_tool (c : StopCause) : (interruptPass c s).tool = s.tool := by
  unfold interruptPass; dsimp only; repeat' split
  all_goals simp

/-! ## The Mode Controller -/

@[simp] theorem setOutputs_tool : (setOutputs s).tool = s.tool := by
  rcases setOutputs_cases s with e | e <;> rw [e] <;> rfl

@[simp] theorem enterPaused_tool : (enterPaused s).tool = s.tool :=
  (foldl_tool _ (by simp) _ _).trans (startHeldMotion_tool s)

@[simp] theorem parkGroup_tool (g : Group) : (parkGroup s g).tool = s.tool := by unfold parkGroup; dsimp only; split <;> simp

@[simp] theorem parkTest_tool : (parkTest s).tool = s.tool := foldl_tool _ (by simp) _ s

@[simp] theorem requestReferencing_tool : (requestReferencing s).tool = s.tool :=
  foldl_tool _ (by simp [referenceGroup]) _ _

@[simp] theorem settleAwaited_tool (occupied : List Nat) : (settleAwaited occupied s).tool = s.tool := by
  unfold settleAwaited; repeat' split
  all_goals simp

@[simp] theorem restartVacuumWatch_tool : (restartVacuumWatch s).tool = s.tool := by
  unfold restartVacuumWatch; split <;> simp

@[simp] theorem releaseCarry_tool : (releaseCarry s).tool = s.tool := by unfold releaseCarry; split <;> simp

/-! ## The works of events -/

@[simp] theorem acceptMagazine_tool (b : Bay) (m : RawMagazine) : (acceptMagazine b m s).tool = s.tool := by
  simp [acceptMagazine]

@[simp] theorem strayEvent_tool (b : Bay) (n : Nat) : (strayEvent b n s).tool = s.tool := by
  unfold strayEvent; dsimp only; split <;> simp

@[simp] theorem slotSeen_tool (b : Bay) (n : Nat) : (slotSeen b n s).tool = s.tool := by
  unfold slotSeen; repeat' split
  all_goals simp

@[simp] theorem setMagazineLine_tool (b : Bay) (v : Bool) : (setMagazineLine b v s).tool = s.tool := rfl

@[simp] theorem magazineArrives_tool (b : Bay) : (magazineArrives b s).tool = s.tool := by
  unfold magazineArrives; dsimp only; split <;> simp

@[simp] theorem expectedRemoval_tool (b : Bay) : (expectedRemoval b s).tool = s.tool := by simp [expectedRemoval]

@[simp] theorem settleRemoved_tool (awaited : Bool) (r : BoardRef) : (settleRemoved awaited r s).tool = s.tool := by
  cases awaited <;> simp [settleRemoved]

@[simp] theorem unexpectedRemoval_tool (b : Bay) : (unexpectedRemoval b s).tool = s.tool := by
  unfold unexpectedRemoval; dsimp only; split <;> simp

@[simp] theorem magazineLeaves_tool (b : Bay) : (magazineLeaves b s).tool = s.tool := by
  unfold magazineLeaves; dsimp only; split <;> simp

@[simp] theorem latchOpens_tool (b : Bay) : (latchOpens b s).tool = s.tool := by simp [latchOpens]

@[simp] theorem approachEnds_tool : (approachEnds s).tool = s.tool := rfl

@[simp] theorem transferEnds_tool : (transferEnds s).tool = s.tool := by simp [transferEnds]

@[simp] theorem expectPlacement_tool (d : Destination) : (expectPlacement d s).tool = s.tool := by
  cases d <;> simp [expectPlacement]

@[simp] theorem releaseBoard_tool : (releaseBoard s).tool = s.tool := by unfold releaseBoard; dsimp only; split <;> simp

@[simp] theorem returnEnds_tool : (returnEnds s).tool = s.tool := by simp [returnEnds]

@[simp] theorem setPanelLine_tool (sh : Shuttle) (v : Bool) : (setPanelLine sh v s).tool = s.tool := rfl

@[simp] theorem panelArrives_tool (sh : Shuttle) : (panelArrives sh s).tool = s.tool := by
  unfold panelArrives; split <;> simp

@[simp] theorem withdrawRemoved_tool (tag : Nat) : (withdrawRemoved tag s).tool = s.tool := by simp [withdrawRemoved]

@[simp] theorem panelLeaves_tool (sh : Shuttle) : (panelLeaves sh s).tool = s.tool := by
  unfold panelLeaves; split <;> simp [earlyRemoval]

/-! ## The owners of requests -/

@[simp] theorem handleSetCellTag_tool (tag : List Byte) : (handleSetCellTag tag s).state.tool = s.tool := by
  unfold handleSetCellTag; repeat' split
  all_goals simp

@[simp] theorem handleSetReports_tool (l : List Nat) : (handleSetReports l s).state.tool = s.tool := by
  unfold handleSetReports; split <;> rfl

@[simp] theorem handleAckFlags_tool (l : List Nat) : (handleAckFlags l s).state.tool = s.tool := by
  unfold handleAckFlags; split <;> rfl

@[simp] theorem handleLoadRecipe_tool (raw : RawRecipe) : (handleLoadRecipe raw s).state.tool = s.tool := by
  unfold handleLoadRecipe; dsimp only; repeat' split
  all_goals rfl

@[simp] theorem handleDropRecipe_tool (n : Nat) : (handleDropRecipe n s).state.tool = s.tool := by
  unfold handleDropRecipe; repeat' split
  all_goals rfl

@[simp] theorem handleSetClaim_tool (c : RawClaim) : (handleSetClaim c s).state.tool = s.tool := by
  unfold handleSetClaim; split <;> simp

@[simp] theorem handleEmptyTray_tool : (handleEmptyTray s).state.tool = s.tool := by
  unfold handleEmptyTray; split <;> simp

@[simp] theorem dropJob_tool (tag : Nat) (l : LeaveListCause) : (dropJob tag l s).tool = s.tool := by simp [dropJob]

@[simp] theorem evictOne_tool : (evictOne s).tool = s.tool := by
  unfold evictOne; repeat' split
  all_goals simp

@[simp] theorem handToShuttles_tool (tag : Nat) (p : Preference) : (handToShuttles tag p s).tool = s.tool := by
  unfold handToShuttles; split <;> simp

@[simp] theorem handleAnnounce_tool (a : RawAnnounce) : (handleAnnounce a s).state.tool = s.tool := by
  unfold handleAnnounce; repeat' split
  all_goals simp [admitJob]

@[simp] theorem withdrawJob_tool (j : Job) : (withdrawJob j s).tool = s.tool := by
  unfold withdrawJob; dsimp only; repeat' split
  all_goals simp [markHostWithdrawal, leaveAtWindow, stopSequencing]

@[simp] theorem handleWithdraw_tool (tag : Nat) : (handleWithdraw tag s).state.tool = s.tool := by
  unfold handleWithdraw; repeat' split
  all_goals simp

@[simp] theorem handleGetJob_tool (tag : Nat) : (handleGetJob tag s).state.tool = s.tool := by
  unfold handleGetJob; split
  · rfl
  · simp only [accept_state]; split <;> rfl

@[simp] theorem handleRelease_tool (tag : Nat) : (handleRelease tag s).state.tool = s.tool := by
  unfold handleRelease; repeat' split
  all_goals simp

@[simp] theorem handleAccept_tool (m : RawMagazine) : (handleAccept m s).state.tool = s.tool := by
  unfold handleAccept; repeat' split
  all_goals simp

@[simp] theorem handleSwap_tool (n : Nat) : (handleSwap n s).state.tool = s.tool := by
  unfold handleSwap; repeat' split
  all_goals simp

@[simp] theorem handleGetBay_tool (n : Nat) : (handleGetBay n s).state.tool = s.tool := by
  unfold handleGetBay; split <;> simp

@[simp] theorem handleCellReset_tool (mark : Bool) : (handleCellReset mark s).state.tool = s.tool := by cases mark <;> rfl

/-! ## The receiver and the resets -/

@[simp] theorem setReceiver_tool (r : Receiver) : (setReceiver r s).tool = s.tool := rfl

@[simp] theorem linkError_tool : (linkError s).tool = s.tool := by simp [linkError]

@[simp] theorem settleFrame_tool (k t : Byte) (p c : List Byte) (hi lo : Byte) :
    (settleFrame k t p c hi lo s).tool = s.tool := by
  unfold settleFrame; dsimp only; split <;> simp

@[simp] theorem assemble_tool (got : List Byte) : (assemble got s).tool = s.tool := by
  unfold assemble; dsimp only; repeat' split
  all_goals simp

@[simp] theorem receiveByte_tool (b : Byte) : (receiveByte b s).tool = s.tool := by
  unfold receiveByte; repeat' split
  all_goals simp

@[simp] theorem receiveBytes_tool (l : List Byte) : (receiveBytes l s).tool = s.tool := foldl_tool _ (by simp) l s

@[simp] theorem beginReset_tool (e : CellEvent) : (beginReset e s).tool = s.tool := by simp [beginReset]

@[simp] theorem resetOneBay_tool (b : Bay) : (resetOneBay s b).tool = s.tool := by
  unfold resetOneBay; dsimp only; repeat' split
  all_goals simp

@[simp] theorem resetBays_tool : (resetBays s).tool = s.tool := by
  unfold resetBays; dsimp only
  rw [foldl_tool _ (by simp), foldl_tool _ (by simp)]; rfl

end Sys2Proof.Machine
end

section
/-! Every step keeps the wear of the fitted bit (R85): the operations that reach the Tool Monitor one by one, then the
dispatch. -/

namespace Sys2Proof.Machine

variable (s : State)

/-! ## The Cut Sequencer -/

@[simp] theorem startPass_wearOk (tag i ring : Nat) (held : Bool) :
    (startPass tag i ring held s).tool.wearOk ↔ s.tool.wearOk := by
  unfold startPass; split
  · rename_i r e t _ _ _
    rw [← askPass_wearOk s { w := e.w, p := t.used + 1, recipe := r }]
    split <;> simp_all
  · rfl

@[simp] theorem takeBoards_wearOk (tag : Nat) (l : List Nat) :
    ∀ s : State, (takeBoards tag l s).tool.wearOk ↔ s.tool.wearOk := by
  induction l with
  | nil => exact fun _ => .rfl
  | cons i rest ih =>
    intro s
    unfold takeBoards; dsimp only; repeat' split
    all_goals simp [ih]

@[simp] theorem chooseFresh_wearOk (tag : Nat) : (chooseFresh tag s).tool.wearOk ↔ s.tool.wearOk := by
  unfold chooseFresh; repeat' split
  all_goals simp

@[simp] theorem chooseInRun_wearOk (tag : Nat) : (chooseInRun tag s).tool.wearOk ↔ s.tool.wearOk := by
  unfold chooseInRun; repeat' split
  all_goals simp

@[simp] theorem chooseNext_wearOk : (chooseNext s).tool.wearOk ↔ s.tool.wearOk := by
  unfold chooseNext; repeat' split
  all_goals simp

@[simp] theorem chooseIfAwaiting_wearOk : (chooseIfAwaiting s).tool.wearOk ↔ s.tool.wearOk := by
  unfold chooseIfAwaiting; split <;> simp

@[simp] theorem reportFitted_wearOk : (reportFitted s).tool.wearOk ↔ s.tool.wearOk := by
  unfold reportFitted; split <;> simp

@[simp] theorem takeUpJob_wearOk (tag : Nat) : (takeUpJob tag s).tool.wearOk ↔ s.tool.wearOk := by simp [takeUpJob]

@[simp] theorem sequencerEntersRun_wearOk : (sequencerEntersRun s).tool.wearOk ↔ s.tool.wearOk := by
  unfold sequencerEntersRun; split <;> simp

@[simp] theorem giveUpHold_wearOk (r : BoardRef) : (giveUpHold r s).tool.wearOk ↔ s.tool.wearOk := by simp [giveUpHold]

@[simp] theorem loseHold_wearOk (r : BoardRef) : (loseHold r s).tool.wearOk ↔ s.tool.wearOk := by
  unfold loseHold; dsimp only; split <;> simp

@[simp] theorem heldOutcome_wearOk (r : BoardRef) (d : Decision) : (heldOutcome r d s).tool.wearOk ↔ s.tool.wearOk := by
  unfold heldOutcome; dsimp only; repeat' split
  all_goals simp

/-! ## The end of a pass -/

@[simp] theorem boardConsequence_wearOk (r : PassRec) (d : Decision) :
    (boardConsequence r d s).tool.wearOk ↔ s.tool.wearOk := by
  unfold boardConsequence; dsimp only; repeat' split
  all_goals simp

@[simp] theorem verifyPass_wearOk (r : PassRec) (c : LoadClass) (o : Bool) :
    (verifyPass r c o s).tool.wearOk ↔ s.tool.wearOk := by
  unfold verifyPass; dsimp only; repeat' split
  all_goals simp

@[simp] theorem completePass_wearOk (r : PassRec) (c : LoadClass) (o : Bool) :
    (completePass r c o s).tool.wearOk ↔ s.tool.wearOk := by
  unfold completePass; dsimp only; split <;> simp

@[simp] theorem settleHeldPass_wearOk : (settleHeldPass s).tool.wearOk ↔ s.tool.wearOk := by
  unfold settleHeldPass; dsimp only; repeat' split
  all_goals simp

/-! ## The Mode Controller -/

@[simp] theorem enterRun_wearOk : (enterRun s).tool.wearOk ↔ s.tool.wearOk := by
  unfold enterRun; dsimp only
  rw [foldl_tool _ (by simp)]; simp

@[simp] theorem setMode_wearOk (m : Mode) : (setMode m s).tool.wearOk ↔ s.tool.wearOk := by cases m <;> simp [setMode]

@[simp] theorem followPause_wearOk : (followPause s).tool.wearOk ↔ s.tool.wearOk := by
  unfold followPause; repeat' split
  all_goals simp

@[simp] theorem setPause_wearOk (p : PauseCauses) : (setPause p s).tool.wearOk ↔ s.tool.wearOk := by
  unfold setPause; split <;> simp

@[simp] theorem stopBlocks_wearOk (m : Mode) (c : StopCause) : (stopBlocks m c s).tool.wearOk ↔ s.tool.wearOk := by
  unfold stopBlocks; dsimp only; split <;> simp

@[simp] theorem addStop_wearOk (c : StopCause) : (addStop c s).tool.wearOk ↔ s.tool.wearOk := by
  unfold addStop; dsimp only; split <;> simp

@[simp] theorem startHoming_wearOk (k : HomingKind) : (startHoming k s).tool.wearOk ↔ s.tool.wearOk := by simp [startHoming]

@[simp] theorem endHoming_wearOk (occupied : List Nat) : (endHoming occupied s).tool.wearOk ↔ s.tool.wearOk := by
  simp [endHoming]

@[simp] theorem readLines_wearOk : (readLines s).tool.wearOk ↔ s.tool.wearOk := by simp [readLines]

@[simp] theorem configure_wearOk (o : Options) (policy : Bool) : (configure o policy s).tool.wearOk ↔ s.tool.wearOk := by
  unfold configure; dsimp only
  rw [markCell_tool, tryChange_wearOk, foldl_tool _ (by simp)]; simp

@[simp] theorem lineChanges_wearOk (l : HoldLine) (v : Bool) : (lineChanges l v s).tool.wearOk ↔ s.tool.wearOk := by
  unfold lineChanges; dsimp only; split <;> simp

@[simp] theorem groupFaults_wearOk (g : Group) (req : Option ReqNo) : (groupFaults g req s).tool.wearOk ↔ s.tool.wearOk := by
  simp [groupFaults]

@[simp] theorem groupReferenced_wearOk (g : Group) (occupied : List Nat) :
    (groupReferenced g occupied s).tool.wearOk ↔ s.tool.wearOk := by
  unfold groupReferenced; dsimp only; split <;> split <;> simp

@[simp] theorem groupParked_wearOk (g : Group) : (groupParked g s).tool.wearOk ↔ s.tool.wearOk := by
  unfold groupParked; dsimp only; split <;> simp

/-! ## The works of events -/

@[simp] theorem cutWatchExpires_wearOk : (cutWatchExpires s).tool.wearOk ↔ s.tool.wearOk := by simp [cutWatchExpires]

/-- R118: a bit is fitted by hand. -/
@[simp] theorem declareBit_wearOk (d : BitDesc) : (declareBit d s).tool.wearOk := by simp [declareBit]

/-- R122: a bit is fitted from the rack. -/
@[simp] theorem fitFromRack_wearOk (d : BitDesc) : (fitFromRack d s).tool.wearOk := by simp [fitFromRack]

@[simp] theorem grantHold_wearOk : (grantHold s).tool.wearOk ↔ s.tool.wearOk := by
  unfold grantHold; dsimp only; split <;> simp

@[simp] theorem loseVacuum_wearOk : (loseVacuum s).tool.wearOk ↔ s.tool.wearOk := by
  unfold loseVacuum; repeat' split
  all_goals simp

@[simp] theorem vacuumWatchExpires_wearOk : (vacuumWatchExpires s).tool.wearOk ↔ s.tool.wearOk := by
  unfold vacuumWatchExpires; repeat' split
  all_goals simp

@[simp] theorem arriveAtCut_wearOk (sh : Shuttle) : (arriveAtCut sh s).tool.wearOk ↔ s.tool.wearOk := by
  unfold arriveAtCut; dsimp only; split <;> simp

/-! ## The owners of requests -/

@[simp] theorem handleConfigure_wearOk (l : List Nat) : (handleConfigure l s).state.tool.wearOk ↔ s.tool.wearOk := by
  unfold handleConfigure; repeat' split
  all_goals simp

theorem handleSetTool_wearOk (d : BitDesc) (h : s.tool.wearOk) : (handleSetTool d s).state.tool.wearOk := by
  unfold handleSetTool; repeat' split
  all_goals simp [h]

@[simp] theorem handleRackBit_wearOk (d : BitDesc) : (handleRackBit d s).state.tool.wearOk ↔ s.tool.wearOk := by
  unfold handleRackBit; repeat' split
  all_goals simp

@[simp] theorem handlePause_wearOk : (handlePause s).state.tool.wearOk ↔ s.tool.wearOk := by simp [handlePause]

@[simp] theorem handleResume_wearOk : (handleResume s).state.tool.wearOk ↔ s.tool.wearOk := by
  unfold handleResume; repeat' split
  all_goals simp [endStop]

@[simp] theorem handlePark_wearOk : (handlePark s).state.tool.wearOk ↔ s.tool.wearOk := by
  unfold handlePark; repeat' split
  all_goals simp [startPark]

@[simp] theorem handleWake_wearOk : (handleWake s).state.tool.wearOk ↔ s.tool.wearOk := by
  unfold handleWake; split <;> simp

/-! ## The resets -/

@[simp] theorem restartMode_wearOk : (restartMode s).tool.wearOk ↔ s.tool.wearOk := by
  have hread : ∀ u, (readInterlocks u).tool.wearOk ↔ u.tool.wearOk := fun u => by
    unfold readInterlocks; dsimp only; split <;> split <;> simp
  unfold restartMode; dsimp only; split <;> simp [hread]

/-- R82: the release of power-on reset leaves no bit. -/
@[simp] theorem powerOn_wearOk (p : Pins) : (powerOn p s).tool.wearOk := by
  have hnone : (powerOnState p s).tool.wearOk := ⟨nofun, rfl⟩
  simpa [powerOn] using hnone

theorem cellReset_wearOk (h : s.tool.wearOk) : (cellReset s).tool.wearOk := by
  unfold cellReset; dsimp only
  rw [resetBays_tool, restartMode_wearOk]
  refine resetToolState_wearOk _ ?_
  show (beginReset _ _).tool.wearOk
  rwa [beginReset_tool]

/-! ## Commands -/

/-- Where the outcome is a next state, the wear is kept (R85). -/
def KeepsWear (s : State) (o : Host.Outcome State Fault Refusal) : Prop := ∀ t, o = .next t → s.tool.wearOk → t.tool.wearOk

variable {s}

theorem notApplied_keepsWear : KeepsWear s (notApplied s) := by
  rintro t ⟨⟩
  exact id

theorem applied_keepsWear {f : State → State} (hf : ∀ u, u.tool.wearOk → (f u).tool.wearOk) : KeepsWear s (applied f s) := by
  rintro t ⟨⟩ h
  rw [finishStep_tool]
  exact hf (beginStep s) h

/-- An event that is applied under a condition. -/
theorem event_keepsWear {p : Prop} [Decidable p] {f : State → State} (hf : ∀ u, u.tool.wearOk → (f u).tool.wearOk) :
    KeepsWear s (if p then applied f s else notApplied s) := by
  split
  · exact applied_keepsWear hf
  · exact notApplied_keepsWear

/-- A request row keeps the wear if the owner that it hands the frame to does. -/
theorem owner_keepsWear {α : Type} {names : Frame → Bool} {work : Frame → State → Handled} {owner : α → State → Handled}
    (hw : HandsTo work owner) (ho : ∀ x u, u.tool.wearOk → (owner x u).state.tool.wearOk) :
    KeepsWear s (request names work s) := by
  unfold request
  split
  · exact notApplied_keepsWear
  · rename_i f rest _
    split
    · rintro t ⟨⟩ h
      rw [finishStep_tool]
      show (work f (takeFrame rest (beginStep s))).state.tool.wearOk
      rcases hw f (takeFrame rest (beginStep s)) with he | ⟨x, he⟩ <;> rw [he]
      · exact h
      · exact ho x (takeFrame rest (beginStep s)) h
    · exact notApplied_keepsWear

/-! Commands that are applied in one state of a record, or to one of two effects. -/

theorem execFrameGapTimeout_keepsWear : KeepsWear s (execFrameGapTimeout s) := by
  unfold execFrameGapTimeout
  split
  · exact applied_keepsWear (by simp)
  · exact notApplied_keepsWear

theorem execSkipQuietGap_keepsWear : KeepsWear s (execSkipQuietGap s) := by
  unfold execSkipQuietGap
  split
  · exact applied_keepsWear (by simp)
  · exact notApplied_keepsWear

theorem execFrameSent_keepsWear : KeepsWear s (execFrameSent s) := by
  unfold execFrameSent
  split
  · exact applied_keepsWear (by simp)
  · exact notApplied_keepsWear

theorem execUnknownKind_keepsWear : KeepsWear s (execUnknownKind s) :=
  owner_keepsWear (α := Unit) (owner := fun _ => refuse .unknownKind) (fun _ _ => .inl rfl) (by simp)

theorem execPassCompletion_keepsWear (req : ReqNo) (load : LoadClass) (overrun : Bool) :
    KeepsWear s (execPassCompletion req load overrun s) := by
  unfold execPassCompletion
  split
  · exact event_keepsWear (by simp)
  · exact notApplied_keepsWear

theorem execDriveFaultEvent_keepsWear (g : Group) (req : Option ReqNo) : KeepsWear s (execDriveFaultEvent g req s) := by
  unfold execDriveFaultEvent
  split
  · exact applied_keepsWear (by simp)
  · exact event_keepsWear (by simp)

theorem execChangerComplete_keepsWear (req : ReqNo) : KeepsWear s (execChangerComplete req s) := by
  unfold execChangerComplete
  split
  · exact event_keepsWear (by simp)
  · exact notApplied_keepsWear

theorem execPanelPresent_keepsWear (sh : Shuttle) : KeepsWear s (execPanelPresent sh s) := by
  unfold execPanelPresent
  exact applied_keepsWear fun u => by dsimp only; split <;> simp

/-- Whatever the command, the wear is kept. -/
theorem exec_keepsWear (c : Instr) (s : State) : KeepsWear s (exec c s) := by
  cases c with
  | powerOnReset p => exact applied_keepsWear (by simp)
  | frameReceived l => exact applied_keepsWear (by simp)
  | frameGapTimeout => exact execFrameGapTimeout_keepsWear
  | skipQuietGap => exact execSkipQuietGap_keepsWear
  | frameSent => exact execFrameSent_keepsWear
  | unknownKind => exact execUnknownKind_keepsWear
  | getStatus => exact owner_keepsWear (unguarded_handsTo _ _) fun _ _ => id
  | configure => exact owner_keepsWear (guarded_handsTo _ _) (by simp)
  | setCellTag => exact owner_keepsWear (guarded_handsTo _ _) (by simp)
  | setReports => exact owner_keepsWear (guarded_handsTo _ _) (by simp)
  | ackFlags => exact owner_keepsWear (guarded_handsTo _ _) (by simp)
  | loadRecipe => exact owner_keepsWear (recipeGuarded_handsTo _ _) (by simp)
  | dropRecipe => exact owner_keepsWear (recipeGuarded_handsTo _ _) (by simp)
  | getRecipe => exact owner_keepsWear (recipeGuarded_handsTo _ _) (by simp)
  | getRecipeDirectory => exact owner_keepsWear (recipeGuarded_handsTo _ _) fun _ _ => id
  | setClaim => exact owner_keepsWear (guarded_handsTo _ _) (by simp)
  | getClaims => exact owner_keepsWear (guarded_handsTo _ _) fun _ _ => id
  | announcePanel => exact owner_keepsWear (guardedPresence_handsTo _ _) (by simp)
  | withdrawPanel => exact owner_keepsWear (guarded_handsTo _ _) (by simp)
  | getJob => exact owner_keepsWear (guarded_handsTo _ _) (by simp)
  | getJobDirectory => exact owner_keepsWear (guarded_handsTo _ _) fun _ _ => id
  | releaseJob => exact owner_keepsWear (guarded_handsTo _ _) (by simp)
  | setTool => exact owner_keepsWear (guarded_handsTo _ _) fun d u => handleSetTool_wearOk u d
  | rackBit => exact owner_keepsWear (guarded_handsTo _ _) (by simp)
  | getTool => exact owner_keepsWear (guarded_handsTo _ _) fun _ _ => id
  | acceptMagazine => exact owner_keepsWear (guardedPresence_handsTo _ _) (by simp)
  | swapBay => exact owner_keepsWear (guarded_handsTo _ _) (by simp)
  | getBay => exact owner_keepsWear (guarded_handsTo _ _) (by simp)
  | emptyTray => exact owner_keepsWear (guarded_handsTo _ _) (by simp)
  | pause => exact owner_keepsWear (guarded_handsTo _ _) (by simp)
  | resume => exact owner_keepsWear (guarded_handsTo _ _) (by simp)
  | park => exact owner_keepsWear (guarded_handsTo _ _) (by simp)
  | wake => exact owner_keepsWear (unguarded_handsTo _ _) (by simp)
  | resetEnable => exact owner_keepsWear (guarded_handsTo _ _) fun _ _ => id
  | cellReset => exact owner_keepsWear (guarded_handsTo _ _) (by simp)
  | cellResetTakesEffect => exact event_keepsWear fun u => cellReset_wearOk u
  | panelPresent sh => exact execPanelPresent_keepsWear sh
  | panelRemoved sh => exact applied_keepsWear (f := fun s => panelLeaves sh (setPanelLine sh false s)) (by simp)
  | shuttleAreaRequest sh => exact event_keepsWear (by simp)
  | shuttleInPosition sh req => exact event_keepsWear (by simp)
  | shuttleMoveOutComplete sh req => exact event_keepsWear (by simp)
  | passCompletion req load overrun => exact execPassCompletion_keepsWear req load overrun
  | cutWatchExpiry => exact event_keepsWear (by simp)
  | interlockActivation line =>
    exact applied_keepsWear (f := fun s => addStop (interlockCause line) (s.updMode (setInterlock line true))) (by simp)
  | interlockClearing line =>
    exact applied_keepsWear (f := fun s => markCell .interlockClear (s.updMode (setInterlock line false))) (by simp)
  | lineHoldAssertion line => exact event_keepsWear (by simp)
  | lineHoldDeassertion line => exact event_keepsWear (by simp)
  | driveFaultEvent g req => exact execDriveFaultEvent_keepsWear g req
  | referencingComplete g req occupied => exact event_keepsWear (by simp)
  | parkComplete g req => exact event_keepsWear (by simp)
  | vacuumMade => exact event_keepsWear (by simp)
  | vacuumLost => exact event_keepsWear (by simp)
  | vacuumWatchExpiry => exact event_keepsWear (by simp)
  | approachComplete req => exact event_keepsWear (by simp)
  | transferComplete req => exact event_keepsWear (by simp)
  | parkWaitComplete req => exact event_keepsWear (by simp)
  | lowerComplete req => exact event_keepsWear (by simp)
  | returnComplete req => exact event_keepsWear (by simp)
  | placeWatchExpiry => exact event_keepsWear (by simp)
  | slotSeated b n => exact event_keepsWear (by simp)
  | trayEntry => exact event_keepsWear (by simp)
  | magazinePresent b => exact event_keepsWear (by simp)
  | magazineRemoved b => exact event_keepsWear (by simp)
  | latchComplete b req => exact event_keepsWear (by simp)
  | changerComplete req => exact execChangerComplete_keepsWear req
  | changerFault req => exact event_keepsWear (by simp)
  | changerWatchExpiry => exact event_keepsWear (by simp)

/-- Settles O6: whatever the command, the wear stays within the shares and these equal to the bit life, from which the totals
follow. -/
theorem stepKeepsWear : Obligations.StepKeepsWear := by
  intro s t ok h
  rw [wearOk_iff] at ok ⊢
  have hkept : t.tool.wearOk := by
    rcases step_cases h with ⟨-, rfl⟩ | ⟨c, rest, -, hc⟩
    · exact ok
    · exact exec_keepsWear c _ t hc ok
  exact ⟨hkept, fun d hd => hkept.totals hd⟩

end Sys2Proof.Machine
end

section
/-! SUPPORT. The rack and the attempts (R116): what keeps the rack at 6 entries or fewer and the attempts at 255 or fewer,
record by record. -/

namespace Sys2Proof.Machine

/-- R116, of the fitted-bit record alone. -/
def ToolRec.rackOk (t : ToolRec) : Prop := t.rack.length ≤ 6 ∧ ∀ op, t.op = some op → op.attempts ≤ 255

theorem rackOk_iff (s : State) : RackOk s ↔ s.tool.rackOk := .rfl

/-- A record with no longer rack, and whose operation has been tried no more often than allowed. -/
theorem ToolRec.rackOk.of_le {t u : ToolRec} (h : t.rackOk) (hrack : u.rack.length ≤ t.rack.length)
    (hop : ∀ op, u.op = some op → op.attempts ≤ 255) : u.rackOk := ⟨Nat.le_trans hrack h.1, hop⟩

/-- A record with the same rack and the same operation. -/
theorem ToolRec.rackOk.same {t u : ToolRec} (h : t.rackOk) (hrack : u.rack = t.rack) (hop : u.op = t.op) : u.rackOk :=
  h.of_le (Nat.le_of_eq (congrArg _ hrack)) (hop ▸ h.2)

/-- A record whose rack has got no longer and whose operation has ended. -/
theorem ToolRec.rackOk.ended {t u : ToolRec} (h : t.rackOk) (hrack : u.rack.length ≤ t.rack.length) (hop : u.op = none) :
    u.rackOk := h.of_le hrack fun _ he => nomatch hop.symm.trans he

/-- A record with the same rack and an operation within the limit. -/
theorem ToolRec.rackOk.withOp {t : ToolRec} (h : t.rackOk) {op : ChangerOp} (hop : op.attempts ≤ 255) :
    { t with op := some op }.rackOk := h.of_le (Nat.le_refl _) fun _ he => Option.some.inj he ▸ hop

/-- R98: a bit that expires keeps its rack. -/
theorem ToolRec.rackOk.expired {t : ToolRec} (h : t.rackOk) : t.expired.rackOk := h.same rfl rfl

/-! ## The Tool Monitor's operations -/

variable {s : State}

/-- R121: each start counts an attempt, saturating at 255. -/
theorem startChanger_rackOk (h : s.tool.rackOk) : (startChanger s).tool.rackOk := by
  unfold startChanger
  split
  · exact h
  · dsimp only
    split
    · rw [toolReport_tool]
      exact h.withOp (Nat.min_le_left _ _)
    · exact h

/-- R120: a change begins with no attempt made. -/
theorem decideChange_rackOk {c : ToolCause} {e : BitDesc} (h : s.tool.rackOk) :
    (decideChange c e s).tool.rackOk := by
  have hbegun : (s.updTool (ToolRec.changing e)).tool.rackOk :=
    h.of_le (Nat.le_refl _) fun _ he => Option.some.inj he ▸ Nat.zero_le _
  exact startChanger_rackOk (by rwa [toolReport_tool])

theorem tryChange_rackOk {c : ToolCause} (h : s.tool.rackOk) : (tryChange c s).tool.rackOk := by
  unfold tryChange
  split
  · exact decideChange_rackOk h
  · exact h

theorem expireBit_rackOk {c : ToolCause} (h : s.tool.rackOk) : (expireBit c s).tool.rackOk := by
  rw [expireBit_eq]
  cases changeEntry? (s.updTool ToolRec.expired) with
  | none => simp [h.expired]
  | some e => exact decideChange_rackOk h.expired

/-- R92, R98: a pass request reaches rack and operation only by the expiry of the bit. -/
theorem askPass_rackOk {ask : PassAsk} (h : s.tool.rackOk) : (askPass ask s).1.tool.rackOk := by
  unfold askPass
  split
  · dsimp only
    split
    · exact h.same rfl rfl
    · exact expireBit_rackOk (h.same rfl rfl)
  · exact h

/-- R95 to R97: an outcome reaches rack and operation only by the expiry of the bit. -/
theorem toolOutcome_rackOk {c : LoadClass} (h : s.tool.rackOk) : (toolOutcome c s).tool.rackOk := by
  cases c with
  | clean => exact h.same rfl rfl
  | shallow => exact h.same rfl rfl
  | hard =>
    simp only [toolOutcome]
    split
    · split
      · exact h.same rfl rfl
      · exact expireBit_rackOk (h.same rfl rfl)
    · exact expireBit_rackOk (h.same rfl rfl)

/-- R124: a halted change keeps its attempts. -/
theorem haltChanger_rackOk (h : s.tool.rackOk) : (haltChanger s).tool.rackOk := by
  unfold haltChanger
  split
  · rename_i op hop
    split
    · rw [toolReport_tool]
      exact h.withOp (h.2 op hop)
    · exact h
  · exact h

/-- R123: a failed change discards the rack's head and ends. -/
theorem failChanger_rackOk {c : ToolCause} (h : s.tool.rackOk) : (failChanger c s).tool.rackOk := by
  rw [failChanger, toolReport_tool, raiseFlag_tool]
  exact h.ended (by simp [clearBit]) rfl

/-- R119: a bit joins a rack that has room for it. -/
theorem addToRack_rackOk {d : BitDesc} (hroom : s.tool.rack.length < 6) (h : s.tool.rackOk) :
    (addToRack d s).tool.rackOk := by
  have hjoined : (s.updTool fun t => { t with rack := t.rack ++ [d] }).tool.rackOk :=
    ⟨Nat.le_trans (Nat.le_of_eq List.length_append) (Nat.succ_le_of_lt hroom), h.2⟩
  unfold addToRack
  dsimp only
  split
  · exact decideChange_rackOk hjoined
  · rw [toolReport_tool]
    exact hjoined

/-- R118: a bit fitted by hand ends the operation and leaves the rack. -/
theorem ToolRec.rackOk.fitted {t : ToolRec} (h : t.rackOk) (d : BitDesc) : (fitBit d { t with op := none }).rackOk :=
  h.ended (Nat.le_refl _) rfl

/-- R122: the rack's head is fitted, and the operation ends. -/
theorem ToolRec.rackOk.changed {t : ToolRec} (h : t.rackOk) (d : BitDesc) :
    (fitBit d { t with rack := t.rack.drop 1, op := none }).rackOk := h.ended (by simp [fitBit]) rfl

/-- R125: CELL RESET ends the operation and leaves the rack. -/
theorem resetToolState_rackOk (h : s.tool.rackOk) : (resetToolState s).tool.rackOk := by
  unfold resetToolState
  split
  · rw [toolReport_tool]
    exact h.ended (Nat.le_refl _) rfl
  · exact h.ended (Nat.le_refl _) rfl

end Sys2Proof.Machine
end

section
/-! SUPPORT. A property of the fitted-bit record that the Tool Monitor's own operations keep is kept by the operations of every
other block: these reach the record through it only. -/

namespace Sys2Proof.Machine

/-- The property is kept by the Tool Monitor's operations that the other blocks call. -/
structure ToolInvariant (p : ToolRec → Prop) : Prop where
  startChanger {s : State} : p s.tool → p (startChanger s).tool
  tryChange {c : ToolCause} {s : State} : p s.tool → p (tryChange c s).tool
  askPass {ask : PassAsk} {s : State} : p s.tool → p (askPass ask s).1.tool
  toolOutcome {c : LoadClass} {s : State} : p s.tool → p (toolOutcome c s).tool
  haltChanger {s : State} : p s.tool → p (haltChanger s).tool

variable {p : ToolRec → Prop} (hp : ToolInvariant p) {s : State}
include hp

namespace ToolInvariant

/-! ## The Cut Sequencer -/

theorem startPass {tag i ring : Nat} {held : Bool} (h : p s.tool) : p (startPass tag i ring held s).tool := by
  unfold Machine.startPass
  split
  · rename_i r e t _ _ _
    have hask := hp.askPass (ask := { w := e.w, p := t.used + 1, recipe := r }) h
    split <;> rename_i hasked <;> rw [hasked] at hask
    · rw [requestPass_tool]
      exact hask
    · exact hask
  · exact h

theorem takeBoards {tag : Nat} (l : List Nat) : ∀ {s : State}, p s.tool → p (takeBoards tag l s).tool := by
  induction l with
  | nil => exact fun h => h
  | cons i rest ih =>
    intro s h
    unfold Machine.takeBoards
    dsimp only
    split
    · exact h
    · split
      · split
        · exact ih (by simpa using h)
        · simpa using h
      · split
        · exact hp.startPass (by simpa using h)
        · exact ih (by simpa using h)

theorem chooseFresh {tag : Nat} (h : p s.tool) : p (chooseFresh tag s).tool := by
  unfold Machine.chooseFresh
  split
  · exact hp.startPass h
  · split
    · exact hp.startPass h
    · exact hp.takeBoards _ h

theorem chooseInRun {tag : Nat} (h : p s.tool) : p (chooseInRun tag s).tool := by
  unfold Machine.chooseInRun
  split
  · exact hp.chooseFresh h
  · split
    · exact hp.startPass h
    · exact hp.chooseFresh h

theorem chooseNext (h : p s.tool) : p (chooseNext s).tool := by
  unfold Machine.chooseNext
  split
  · exact h
  · split
    · exact hp.chooseInRun h
    · exact h

theorem chooseIfAwaiting (h : p s.tool) : p (chooseIfAwaiting s).tool := by
  unfold Machine.chooseIfAwaiting
  split
  · exact hp.chooseNext h
  · exact h

theorem reportFitted (h : p s.tool) : p (reportFitted s).tool := by
  unfold Machine.reportFitted
  split
  · exact hp.chooseNext h
  · exact h

theorem takeUpJob {tag : Nat} (h : p s.tool) : p (takeUpJob tag s).tool := hp.chooseNext h

theorem sequencerEntersRun (h : p s.tool) : p (sequencerEntersRun s).tool := by
  unfold Machine.sequencerEntersRun
  split
  · exact hp.chooseNext h
  · exact h

/-! ## Holds (R131, R133, R134) -/

theorem giveUpHold {ref : BoardRef} (h : p s.tool) : p (giveUpHold ref s).tool := hp.chooseIfAwaiting (by simpa using h)

theorem loseHold {ref : BoardRef} (h : p s.tool) : p (loseHold ref s).tool := by
  unfold Machine.loseHold
  dsimp only
  split
  · exact hp.giveUpHold (by simpa using h)
  · simpa using h

theorem heldOutcome {ref : BoardRef} {d : Decision} (h : p s.tool) : p (heldOutcome ref d s).tool := by
  unfold Machine.heldOutcome
  cases d with
  | severed => dsimp only; split <;> simpa using h
  | anotherPass =>
    dsimp only
    split
    · exact hp.loseHold h
    · exact h
  | failed => simpa using h
  | none => exact h

theorem settleHeldPass (h : p s.tool) : p (settleHeldPass s).tool := by
  have hcleared : p (if s.pick.heldPass then s.updPick fun k => { k with heldPass := false, holdLost := false } else s).tool := by
    split <;> exact h
  unfold Machine.settleHeldPass
  dsimp only
  split
  · split
    · exact hp.loseHold hcleared
    · exact hcleared
  · exact hcleared

/-! ## The end of a pass (R71, R105) -/

theorem boardConsequence {r : PassRec} {d : Decision} (h : p s.tool) : p (boardConsequence r d s).tool := by
  unfold Machine.boardConsequence
  dsimp only
  split
  · split
    · exact hp.heldOutcome (by simpa using h)
    · simpa using h
  · split
    · exact hp.heldOutcome h
    · exact h

theorem verifyPass {r : PassRec} {c : LoadClass} {overrun : Bool} (h : p s.tool) : p (verifyPass r c overrun s).tool := by
  unfold Machine.verifyPass
  split
  · refine hp.toolOutcome (hp.boardConsequence ?_)
    rw [State.updTab_tool]
    split <;> simpa using h
  · exact h

theorem completePass {r : PassRec} {c : LoadClass} {overrun : Bool} (h : p s.tool) :
    p (completePass r c overrun s).tool := by
  have hverified : p (Machine.verifyPass r c overrun (s.updSeq fun q => { q with pass := none })).tool := hp.verifyPass h
  unfold Machine.completePass
  dsimp only
  split
  · simpa using hverified
  · exact hp.chooseNext (by simpa using hverified)

/-! ## The Mode Controller (R189 to R195) -/

theorem enterRun (h : p s.tool) : p (enterRun s).tool := by
  unfold Machine.enterRun
  rw [foldl_tool _ (by simp)]
  refine hp.startChanger ?_
  rw [serveTest_tool, startHeldMotion_tool]
  exact hp.sequencerEntersRun (by simpa using h)

theorem setMode {m : Mode} (h : p s.tool) : p (setMode m s).tool := by
  unfold Machine.setMode
  dsimp only
  split
  · exact hp.enterRun (by simpa using h)
  · simpa using h
  · simpa using h

theorem followPause (h : p s.tool) : p (followPause s).tool := by
  unfold Machine.followPause
  split
  · split
    · exact hp.setMode h
    · exact h
  · split
    · exact h
    · exact hp.setMode h
  · simpa using h
  · exact h

theorem setPause {c : PauseCauses} (h : p s.tool) : p (setPause c s).tool := by
  unfold Machine.setPause
  split
  · exact h
  · exact hp.followPause h

theorem readLines (h : p s.tool) : p (readLines s).tool := hp.setPause h

theorem stopBlocks {before : Mode} {c : StopCause} (h : p s.tool) : p (stopBlocks before c s).tool := by
  have hsettled : p (Machine.settleHeldPass (interruptPass c s)).tool := hp.settleHeldPass (by simpa using h)
  refine hp.haltChanger ?_
  rw [State.updPick_tool, State.updShut_tool]
  split <;> simpa using hsettled

theorem addStop {c : StopCause} (h : p s.tool) : p (addStop c s).tool := by
  unfold Machine.addStop
  dsimp only
  split
  · exact h
  · rw [markCell_tool, setOutputs_tool]
    exact hp.stopBlocks (by simpa using h)

theorem startHoming {k : HomingKind} (h : p s.tool) : p (startHoming k s).tool := by
  rw [Machine.startHoming, requestReferencing_tool]
  exact hp.setMode h

theorem endHoming {occupied : List Nat} (h : p s.tool) : p (endHoming occupied s).tool := hp.setMode (by simpa using h)

theorem endStop (h : p s.tool) : p (endStop s).tool := hp.startHoming h

theorem startPark (h : p s.tool) : p (startPark s).tool := by
  rw [Machine.startPark, parkTest_tool]
  exact hp.setMode h

theorem configure {o : Options} {policy : Bool} (h : p s.tool) : p (configure o policy s).tool := by
  refine hp.tryChange ?_
  rw [foldl_tool _ (by simp), setOutputs_tool]
  exact hp.readLines h

theorem lineChanges {l : HoldLine} {v : Bool} (h : p s.tool) : p (lineChanges l v s).tool := by
  unfold Machine.lineChanges
  dsimp only
  split
  · rw [setOutputs_tool]
    exact hp.readLines h
  · exact h

theorem groupFaults {g : Group} {req : Option ReqNo} (h : p s.tool) : p (groupFaults g req s).tool :=
  hp.addStop (by simpa using h)

theorem cutWatchExpires (h : p s.tool) : p (cutWatchExpires s).tool := hp.addStop (by simpa using h)

theorem groupReferenced {g : Group} {occupied : List Nat} (h : p s.tool) : p (groupReferenced g occupied s).tool := by
  unfold Machine.groupReferenced
  dsimp only
  split <;> split
  · exact hp.endHoming (by simpa using h)
  · simpa using h
  · exact hp.endHoming h
  · exact h

theorem groupParked {g : Group} (h : p s.tool) : p (groupParked g s).tool := by
  unfold Machine.groupParked
  dsimp only
  split
  · exact hp.setMode h
  · exact h

theorem restartMode (h : p s.tool) : p (restartMode s).tool := by
  have hread : ∀ {u : State}, p u.tool → p (readInterlocks u).tool := fun {u} hu => by
    unfold readInterlocks
    dsimp only
    split <;> split
    · exact hp.addStop (hp.addStop hu)
    · exact hp.addStop hu
    · exact hp.addStop hu
    · exact hu
  unfold Machine.restartMode
  rw [setOutputs_tool]
  split
  · rw [requestReferencing_tool]
    exact hread h
  · exact hread h

/-! ## The Pick Controller's and the Shuttle Controller's events -/

theorem grantHold (h : p s.tool) : p (grantHold s).tool := by
  refine hp.chooseIfAwaiting ?_
  split <;> simpa using h

theorem loseVacuum (h : p s.tool) : p (loseVacuum s).tool := by
  unfold Machine.loseVacuum
  split
  · split
    · exact h
    · exact hp.loseHold h
  · simpa using h
  · simpa using h
  · exact h

theorem vacuumWatchExpires (h : p s.tool) : p (vacuumWatchExpires s).tool := by
  unfold Machine.vacuumWatchExpires
  split
  · split
    · exact hp.giveUpHold h
    · exact h
  · simpa using h

theorem arriveAtCut {sh : Shuttle} (h : p s.tool) : p (arriveAtCut sh s).tool := by
  unfold Machine.arriveAtCut
  dsimp only
  split
  · simpa using h
  · exact hp.takeUpJob (by simpa using h)

/-! ## The owners of the Mode Controller's requests -/

theorem handleConfigure {l : List Nat} (h : p s.tool) : p (handleConfigure l s).state.tool := by
  unfold Machine.handleConfigure
  split
  · exact h
  · split
    · exact h
    · exact hp.configure h

theorem handlePause (h : p s.tool) : p (handlePause s).state.tool := hp.setPause h

theorem handleResume (h : p s.tool) : p (handleResume s).state.tool := by
  unfold Machine.handleResume
  split
  · split
    · exact h
    · exact hp.endStop h
  · exact hp.setPause h

theorem handlePark (h : p s.tool) : p (handlePark s).state.tool := by
  unfold Machine.handlePark
  split
  · split
    · exact h
    · exact hp.startPark h
  · exact h

theorem handleWake (h : p s.tool) : p (handleWake s).state.tool := by
  unfold Machine.handleWake
  split
  · exact hp.startHoming h
  · exact h

end ToolInvariant

end Sys2Proof.Machine
end

section
/-! Every step keeps the rack within its 6 places and the attempts within 255 (R116). -/

namespace Sys2Proof.Machine

/-- The rack and the attempts stay within their bounds in every operation of the Tool Monitor that another block calls. -/
theorem rackOk_invariant : ToolInvariant ToolRec.rackOk where
  startChanger := startChanger_rackOk
  tryChange := tryChange_rackOk
  askPass := askPass_rackOk
  toolOutcome := toolOutcome_rackOk
  haltChanger := haltChanger_rackOk

variable {s : State}

/-! ## The Tool Monitor's commands and the resets -/

theorem declareBit_rackOk {d : BitDesc} (h : s.tool.rackOk) : (declareBit d s).tool.rackOk := by
  rw [declareBit, toolReport_tool]
  exact rackOk_invariant.reportFitted (h.fitted d)

theorem fitFromRack_rackOk {d : BitDesc} (h : s.tool.rackOk) : (fitFromRack d s).tool.rackOk := by
  rw [fitFromRack, parkTest_tool, toolReport_tool]
  exact rackOk_invariant.reportFitted (h.changed d)

theorem handleSetTool_rackOk {d : BitDesc} (h : s.tool.rackOk) : (handleSetTool d s).state.tool.rackOk := by
  unfold handleSetTool
  split
  · exact h
  · split
    · exact h
    · exact declareBit_rackOk h

/-- R119: a full rack takes no bit. -/
theorem handleRackBit_rackOk {d : BitDesc} (h : s.tool.rackOk) : (handleRackBit d s).state.tool.rackOk := by
  unfold handleRackBit
  split
  · exact h
  · split
    · exact h
    · rename_i hroom
      exact addToRack_rackOk (Nat.lt_of_not_le hroom) h

theorem resetTool_rackOk : State.resetTool.rackOk := ⟨Nat.zero_le _, nofun⟩

theorem powerOn_rackOk (p : Pins) : (powerOn p s).tool.rackOk :=
  rackOk_invariant.restartMode (by rw [beginReset_tool]; exact resetTool_rackOk)

theorem cellReset_rackOk (h : s.tool.rackOk) : (cellReset s).tool.rackOk := by
  unfold cellReset
  rw [resetBays_tool]
  refine rackOk_invariant.restartMode (resetToolState_rackOk ?_)
  show (beginReset _ _).tool.rackOk
  rwa [beginReset_tool]

/-! ## Commands -/

/-- Where the outcome is a next state, a property of the fitted-bit record is kept. -/
def KeepsTool (p : ToolRec → Prop) (s : State) (o : Host.Outcome State Fault Refusal) : Prop :=
  ∀ t, o = .next t → p s.tool → p t.tool

section
variable {p : ToolRec → Prop}

theorem notApplied_keepsTool : KeepsTool p s (notApplied s) := by
  rintro t ⟨⟩
  exact id

theorem applied_keepsTool {f : State → State} (hf : ∀ u, p u.tool → p (f u).tool) : KeepsTool p s (applied f s) := by
  rintro t ⟨⟩ h
  rw [finishStep_tool]
  exact hf (beginStep s) h

/-- An event that is applied under a condition. -/
theorem event_keepsTool {q : Prop} [Decidable q] {f : State → State} (hf : ∀ u, p u.tool → p (f u).tool) :
    KeepsTool p s (if q then applied f s else notApplied s) := by
  split
  · exact applied_keepsTool hf
  · exact notApplied_keepsTool

/-- A request row keeps a property of the record if the owner that it hands the frame to does. -/
theorem owner_keepsTool {α : Type} {names : Frame → Bool} {work : Frame → State → Handled} {owner : α → State → Handled}
    (hw : HandsTo work owner) (ho : ∀ x u, p u.tool → p (owner x u).state.tool) :
    KeepsTool p s (request names work s) := by
  unfold request
  split
  · exact notApplied_keepsTool
  · rename_i f rest _
    split
    · rintro t ⟨⟩ h
      rw [finishStep_tool]
      show p (work f (takeFrame rest (beginStep s))).state.tool
      rcases hw f (takeFrame rest (beginStep s)) with he | ⟨x, he⟩ <;> rw [he]
      · exact h
      · exact ho x (takeFrame rest (beginStep s)) h
    · exact notApplied_keepsTool

/-- A command whose work leaves the record alone. -/
theorem applied_apart {f : State → State} (hf : ∀ u, (f u).tool = u.tool) : KeepsTool p s (applied f s) :=
  applied_keepsTool fun u => (hf u).symm ▸ id

/-- An event whose work leaves the record alone. -/
theorem event_apart {q : Prop} [Decidable q] {f : State → State} (hf : ∀ u, (f u).tool = u.tool) :
    KeepsTool p s (if q then applied f s else notApplied s) := event_keepsTool fun u => (hf u).symm ▸ id

/-- A request whose owner leaves the record alone. -/
theorem owner_apart {α : Type} {names : Frame → Bool} {work : Frame → State → Handled} {owner : α → State → Handled}
    (hw : HandsTo work owner) (ho : ∀ x u, (owner x u).state.tool = u.tool) : KeepsTool p s (request names work s) :=
  owner_keepsTool hw fun x u => (ho x u).symm ▸ id

/-! Commands that are applied in one state of a record. -/

theorem execFrameGapTimeout_apart : KeepsTool p s (execFrameGapTimeout s) := by
  unfold execFrameGapTimeout
  split
  · exact applied_apart (by simp)
  · exact notApplied_keepsTool

theorem execSkipQuietGap_apart : KeepsTool p s (execSkipQuietGap s) := by
  unfold execSkipQuietGap
  split
  · exact applied_apart (by simp)
  · exact notApplied_keepsTool

theorem execFrameSent_apart : KeepsTool p s (execFrameSent s) := by
  unfold execFrameSent
  split
  · exact applied_apart (by simp)
  · exact notApplied_keepsTool

theorem execUnknownKind_apart : KeepsTool p s (execUnknownKind s) :=
  owner_apart (α := Unit) (owner := fun _ => refuse .unknownKind) (fun _ _ => .inl rfl) (by simp)

theorem execPanelPresent_apart (sh : Shuttle) : KeepsTool p s (execPanelPresent sh s) := by
  unfold execPanelPresent
  exact applied_apart fun u => by dsimp only; split <;> simp

theorem execPassCompletion_keepsTool (hp : ToolInvariant p) (req : ReqNo) (load : LoadClass) (overrun : Bool) :
    KeepsTool p s (execPassCompletion req load overrun s) := by
  unfold execPassCompletion
  split
  · exact event_keepsTool fun _ => hp.completePass
  · exact notApplied_keepsTool

end

/-! Commands that end a change, and the failure of one. -/

theorem failedChange_rackOk (c : ToolCause) (u : State) (h : u.tool.rackOk) : (parkTest (failChanger c u)).tool.rackOk := by
  rw [parkTest_tool]
  exact failChanger_rackOk h

theorem execDriveFaultEvent_keepsRack (g : Group) (req : Option ReqNo) :
    KeepsTool ToolRec.rackOk s (execDriveFaultEvent g req s) := by
  unfold execDriveFaultEvent
  split
  · exact applied_keepsTool (failedChange_rackOk _)
  · exact event_keepsTool fun _ => rackOk_invariant.groupFaults

theorem execChangerComplete_keepsRack (req : ReqNo) : KeepsTool ToolRec.rackOk s (execChangerComplete req s) := by
  unfold execChangerComplete
  split
  · exact event_keepsTool fun _ => fitFromRack_rackOk
  · exact notApplied_keepsTool

/-- Whatever the command, rack and attempts stay within their bounds. -/
theorem exec_keepsRack (c : Instr) (s : State) : KeepsTool ToolRec.rackOk s (exec c s) := by
  have hp := rackOk_invariant
  cases c with
  | powerOnReset p => exact applied_keepsTool fun _ _ => powerOn_rackOk p
  | cellResetTakesEffect => exact event_keepsTool fun _ => cellReset_rackOk
  -- The link.
  | frameReceived l => exact applied_apart (by simp)
  | frameGapTimeout => exact execFrameGapTimeout_apart
  | skipQuietGap => exact execSkipQuietGap_apart
  | frameSent => exact execFrameSent_apart
  -- The requests whose owners reach the Tool Monitor.
  | configure => exact owner_keepsTool (guarded_handsTo _ _) fun _ _ => hp.handleConfigure
  | setTool => exact owner_keepsTool (guarded_handsTo _ _) fun _ _ => handleSetTool_rackOk
  | rackBit => exact owner_keepsTool (guarded_handsTo _ _) fun _ _ => handleRackBit_rackOk
  | pause => exact owner_keepsTool (guarded_handsTo _ _) fun _ _ => hp.handlePause
  | resume => exact owner_keepsTool (guarded_handsTo _ _) fun _ _ => hp.handleResume
  | park => exact owner_keepsTool (guarded_handsTo _ _) fun _ _ => hp.handlePark
  | wake => exact owner_keepsTool (unguarded_handsTo _ _) fun _ _ => hp.handleWake
  -- The other requests.
  | unknownKind => exact execUnknownKind_apart
  | getStatus => exact owner_apart (unguarded_handsTo _ _) fun _ _ => rfl
  | getClaims | getJobDirectory | getTool | resetEnable => exact owner_apart (guarded_handsTo _ _) fun _ _ => rfl
  | setCellTag | setReports | ackFlags | setClaim | withdrawPanel | getJob | releaseJob | swapBay | getBay | emptyTray
  | cellReset => exact owner_apart (guarded_handsTo _ _) (by simp)
  | loadRecipe | dropRecipe | getRecipe => exact owner_apart (recipeGuarded_handsTo _ _) (by simp)
  | getRecipeDirectory => exact owner_apart (recipeGuarded_handsTo _ _) fun _ _ => rfl
  | announcePanel | acceptMagazine => exact owner_apart (guardedPresence_handsTo _ _) (by simp)
  -- The events that reach the Tool Monitor.
  | shuttleInPosition => exact event_keepsTool fun _ => hp.arriveAtCut
  | passCompletion req load overrun => exact execPassCompletion_keepsTool hp req load overrun
  | cutWatchExpiry => exact event_keepsTool fun _ => hp.cutWatchExpires
  | interlockActivation line =>
    exact applied_keepsTool (f := fun s => addStop (interlockCause line) (s.updMode (setInterlock line true)))
      fun _ h => hp.addStop h
  | lineHoldAssertion | lineHoldDeassertion => exact event_keepsTool fun _ => hp.lineChanges
  | driveFaultEvent g req => exact execDriveFaultEvent_keepsRack g req
  | referencingComplete => exact event_keepsTool fun _ => hp.groupReferenced
  | parkComplete => exact event_keepsTool fun _ => hp.groupParked
  | vacuumMade => exact event_keepsTool fun _ => hp.grantHold
  | vacuumLost => exact event_keepsTool fun _ => hp.loseVacuum
  | vacuumWatchExpiry => exact event_keepsTool fun _ => hp.vacuumWatchExpires
  | changerComplete req => exact execChangerComplete_keepsRack req
  | changerFault => exact event_keepsTool (failedChange_rackOk _)
  | changerWatchExpiry => exact event_keepsTool fun u => failedChange_rackOk .watch (sendPlain .abandonToolChange u)
  -- The other events.
  | interlockClearing line =>
    exact applied_apart (f := fun s => markCell .interlockClear (s.updMode (setInterlock line false))) fun _ => rfl
  | panelPresent sh => exact execPanelPresent_apart sh
  | panelRemoved sh => exact applied_apart (f := fun s => panelLeaves sh (setPanelLine sh false s)) (by simp)
  | shuttleAreaRequest | shuttleMoveOutComplete | approachComplete | transferComplete | parkWaitComplete | lowerComplete
  | returnComplete | placeWatchExpiry | slotSeated | trayEntry | magazinePresent | magazineRemoved | latchComplete =>
    exact event_apart (by simp)

/-- Settles O7: whatever the command, the rack takes a bit only where it has room, and the attempts saturate. -/
theorem stepKeepsRack : Obligations.StepKeepsRack := by
  intro s t ok h
  rw [rackOk_iff] at ok ⊢
  rcases step_cases h with ⟨-, rfl⟩ | ⟨c, rest, -, hc⟩
  · exact ok
  · exact exec_keepsRack c _ t hc ok

end Sys2Proof.Machine
end

section
/-! SUPPORT. The effect of a step that queues reports, in one rule for events and one for requests; and a bit descriptor as it is
received (R83). -/

namespace Sys2Proof.Machine

variable {s after : State} {c : Instr} {l reports : List Report} {sent : List DriveMsg}

/-- The state within a step that has made the records of `after` and sent `sent`. -/
def State.withSent (after : State) (sent : List DriveMsg) : State := { after with out := { emptyOutput with sent := sent } }

@[simp] theorem queueReports_tool (l : List Report) : ∀ s : State, (queueReports l s).tool = s.tool := by
  induction l with
  | nil => exact fun _ => rfl
  | cons r l ih => exact fun s => (ih _).trans (queueReport_tool s r)

@[simp] theorem withSent_link : (after.withSent sent).link = after.link := rfl

/-- An event whose work makes the records of `after`, of the link's fields the flags alone being changed, has that effect. -/
theorem effect_reports {work : State → State} (hx : exec c s = applied work s)
    (hw : work (beginStep s) = queueReports l (after.withSent sent))
    (hl : l.map (settleReport (after.withSent sent)) = reports)
    (hlink : after.link = { s.link with flags := after.link.flags }) : Effect c s after reports sent := by
  unfold applied at hx
  rw [hw] at hx
  refine effect_of hx rfl rfl ?_ rfl rfl ?_ ?_ ?_ ?_ ?_
  · rw [hl]
    exact List.append_nil _
  all_goals rw [withSent_link, hlink]

/-- As above, for an event that queues TOOL STATE reports only and leaves the link alone. -/
theorem effect_toolReports {work : State → State} {l : List ToolReport} (hx : exec c s = applied work s)
    (hw : work (beginStep s) = queueReports (l.map .toolState) (after.withSent sent)) (hlink : after.link = s.link) :
    Effect c s after (l.map .toolState) sent :=
  effect_reports hx hw (by simp [settleReport]) (by rw [hlink])

/-- A request outside PARKED that reads whole, and whose owner makes the records of `after`, queues TOOL STATE reports only and
leaves the link alone, is answered so. -/
theorem answers_toolReports {names : Frame → Bool} {α : Type} {read : Reader α} {owner : α → State → Handled} {f : Frame}
    {rest : List Frame} {k : Byte} {p : List Byte} {x : α} {body : ReplyBody} {l : List ToolReport}
    (hx : exec c s = request names (guarded read owner) s) (ha : Asks s f rest k p) (hn : names f = true)
    (hm : s.mode.mode ≠ .parked) (hp : whole read p = some x)
    (ho : owner x (takeFrame rest (beginStep s)) =
      { state := queueReports (l.map .toolState) (after.withSent sent), body := body })
    (hlink : after.link = (takeFrame rest s).link) : Answers c s f body after (l.map .toolState) sent := by
  have hread := request_read hx ha hn hm hp
  rw [ho] at hread
  refine answers_of hread rfl rfl ?_ rfl rfl ?_ ?_ ?_ ?_
  · exact (List.append_nil _).trans (by simp [settleReport])
  all_goals rw [withSent_link, hlink]; rfl

/-! ## Bit descriptors -/

variable {d : BitDesc}

/-- R203: a descriptor within its ranges is read back from its bytes, with none left. -/
theorem whole_encBit (h : d.inRange) : whole rawBit (encBit d) = some d := by
  obtain ⟨hd, hu, hs, hn, hl⟩ := h
  have hread := rawBit_encBit [] d (by omega) (by omega) (by omega) (by omega) (by omega)
  rw [List.append_nil] at hread
  exact whole_of hread

/-- R83: a descriptor within its ranges passes the checks. -/
theorem checkBit_inRange (h : d.inRange) : checkBit d = none := by
  obtain ⟨hd, hu, hs, hn, hl⟩ := h
  simp [checkBit, firstBad_none_iff, within_iff, hd, hu, hs, hn, hl]

end Sys2Proof.Machine
end

section
/-! RACK BIT (R119 to R121): a bit joins the rack, and for an EXPIRED bit a change begins. -/

namespace Sys2Proof.Machine

variable {s : State} {d e : BitDesc}

theorem exec_rackBit : exec .rackBit s = request (ofKind 0x31#8) (guarded rawBit handleRackBit) s := rfl

/-- R119: the record with one more bit in the rack. -/
def ToolRec.racked (d : BitDesc) (t : ToolRec) : ToolRec := { t with rack := t.rack ++ [d] }

theorem handleRackBit_full (h : d.inRange) (hfull : 6 ≤ s.tool.rack.length) : handleRackBit d s = refuse .full s := by
  simp [handleRackBit, checkBit_inRange h, Config.rackLimit, hfull]

/-- R119: the reply shows the rack's count and the bit state after the step. -/
theorem handleRackBit_joins {l : List Report} {w : State} (h : d.inRange) (hroom : s.tool.rack.length < 6)
    (hadd : addToRack d s = queueReports l w) (hrack : w.tool.rack = s.tool.rack ++ [d]) :
    handleRackBit d s =
      { state := queueReports l w, body := .ok (.rackAdded (s.tool.rack.length + 1) w.tool.state) } := by
  simp [handleRackBit, checkBit_inRange h, Config.rackLimit, Nat.not_le.mpr hroom, accept, hadd, hrack]

/-- R115: with the bit not EXPIRED or the changer not in use there is nothing to change. -/
theorem changeEntry?_none (h : s.tool.state ≠ .expired ∨ s.mode.options.changer = false) : changeEntry? s = none := by
  rcases h with h | h <;> simp [changeEntry?, h]

/-- R115: an EXPIRED bit is changed for the rack's head. -/
theorem changeEntry?_head (he : s.tool.state = .expired) (hc : s.mode.options.changer = true) :
    changeEntry? s = s.tool.rack.head? := if_pos ⟨he, hc⟩

/-- R119: with no change to begin, the bit joins the rack and that is reported. -/
theorem addToRack_joins (h : s.tool.state ≠ .expired ∨ s.mode.options.changer = false) :
    addToRack d s =
      queueReports [.toolState (toolReportOf .rack (s.tool.racked d))] (s.updTool fun _ => s.tool.racked d) := by
  have hnone : changeEntry? (s.updTool fun t => { t with rack := t.rack ++ [d] }) = none := changeEntry?_none h
  simp only [addToRack, hnone]
  rfl

/-- R120: the bit joins the rack of an EXPIRED bit, and the change to the rack's head is decided. -/
theorem addToRack_decides (he : s.tool.state = .expired) (hc : s.mode.options.changer = true)
    (hhead : (s.tool.racked d).rack.head? = some e) : addToRack d s = decideChange .rack e (s.updTool (ToolRec.racked d)) := by
  have hentry : changeEntry? (s.updTool fun t => { t with rack := t.rack ++ [d] }) = some e :=
    (changeEntry?_head (s := s.updTool (ToolRec.racked d)) he hc).trans hhead
  simp only [addToRack, hentry]
  rfl

/-- R120: outside RUN the change waits. -/
theorem addToRack_waits (he : s.tool.state = .expired) (hc : s.mode.options.changer = true)
    (hhead : (s.tool.racked d).rack.head? = some e) (hm : s.mode.mode ≠ .run) :
    addToRack d s =
      queueReports [.toolState (toolReportOf .rack ((s.tool.racked d).changing e))]
        (s.updTool fun _ => (s.tool.racked d).changing e) :=
  (addToRack_decides he hc hhead).trans (decideChange_waits (s := s.updTool _) _ _ hm)

/-- R121: the record of a change that has been requested for the first time. -/
def ToolRec.requested (e : BitDesc) (req : ReqNo) (t : ToolRec) : ToolRec :=
  { t.changing e with op := some { phase := .moving, entry := e, attempts := 1, req := some req } }

/-- R121: in RUN the change is requested of BAY DRIVE at once. -/
theorem addToRack_requests (he : s.tool.state = .expired) (hc : s.mode.options.changer = true)
    (hhead : (s.tool.racked d).rack.head? = some e) (hm : s.mode.mode = .run) :
    addToRack d s =
      queueReports
        [ .toolState (toolReportOf .rack ((s.tool.racked d).changing e)),
          .toolState (toolReportOf .changeStarted ((s.tool.racked d).requested e s.drive.bay)) ]
        (sendRequest .bay (.toolChange e) (s.updTool fun _ => (s.tool.racked d).requested e s.drive.bay)) := by
  rw [addToRack_decides he hc hhead, decideChange_requested (s := s.updTool _) _ _ hm]
  simp only [toolReport, sendRequest_queue, updTool_queue, queueReport_tool]
  rfl

/-- Settles O38: a full rack refuses; else the bit joins it, with no change to begin, a change that waits, or a change requested
at once. -/
theorem bitRacked : Obligations.BitRacked := by
  intro s f rest d ha hm hd
  have hn := Asks.ofKind ha
  have hp := whole_encBit hd
  refine ⟨fun hfull => ?_, fun hroom => ⟨fun hidle => ?_, fun e he hc hhead => ⟨fun hmode => ?_, fun hmode => ?_⟩⟩⟩
  · exact answers_toolReports (l := []) exec_rackBit ha hn hm hp (handleRackBit_full hd hfull) rfl
  · exact answers_toolReports (l := [_]) exec_rackBit ha hn hm hp (handleRackBit_joins hd hroom (addToRack_joins hidle) rfl) rfl
  · exact answers_toolReports (l := [_]) exec_rackBit ha hn hm hp
      (handleRackBit_joins hd hroom (addToRack_waits he hc hhead hmode) rfl) rfl
  · exact answers_toolReports (l := [_, _]) exec_rackBit ha hn hm hp
      (handleRackBit_joins hd hroom (addToRack_requests he hc hhead hmode) rfl) rfl

end Sys2Proof.Machine
end

section
/-! SUPPORT. A bit just fitted (R84), the charge of its first segment (R86, R92), and the choice point that it is for a
sequencer in TOOL WAIT (R69, R115). -/

namespace Sys2Proof.Machine

variable {s : State} {d : BitDesc}

/-! ## A bit just fitted -/

/-- A segment that has just been opened. -/
def Segment.fresh (share : Nat) : Segment := { share := share, used := 0, cause := .opened }

/-- R84: the record of a bit just fitted, no change being in progress. -/
def ToolRec.fitted (d : BitDesc) (t : ToolRec) : ToolRec := fitBit d { t with op := none }

theorem fitted_segs (t : ToolRec) : (t.fitted d).segs = (segmentShares d).map Segment.fresh := rfl

theorem usedTotal_fresh (l : List Nat) : usedTotal (l.map Segment.fresh) = 0 := by
  induction l with
  | nil => rfl
  | cons n l ih => simpa [usedTotal, Segment.fresh] using ih

theorem forfeitTotal_fresh (l : List Nat) : forfeitTotal (l.map Segment.fresh) = 0 := by
  induction l with
  | nil => rfl
  | cons n l ih => simpa [forfeitTotal, Segment.fresh, Segment.forfeit] using ih

/-- R126: TOOL STATE of a bit just fitted shows its whole life as remaining. -/
theorem toolReportOf_fitted (c : ToolCause) (t : ToolRec) :
    toolReportOf c (t.fitted d) =
      { cause := c, state := .fitted, desc := some d, n := segmentCount d, k := 0, used := 0, forfeits := 0, remaining := d.lb,
        charged := 0, rackCount := t.rack.length, op := none } := by
  have hok : (t.fitted d).wearOk := fitBit_wearOk d _
  have htotals := hok.totals rfl
  have hused : usedTotal (t.fitted d).segs = 0 := usedTotal_fresh _
  have hforfeits : forfeitTotal (t.fitted d).segs = 0 := forfeitTotal_fresh _
  have hremaining : remainingTotal (t.fitted d).segs = d.lb := by omega
  simp only [toolReportOf, hused, hforfeits, hremaining]
  rfl

/-- R84: a bit has a first segment. -/
theorem segmentShares_cons (d : BitDesc) : ∃ rest, segmentShares d = (segmentShares d).headD 0 :: rest := by
  cases h : segmentShares d with
  | nil => simp [segmentShares] at h
  | cons n rest => exact ⟨rest, rfl⟩

/-- R91: a first segment that holds the debit is settled, and none is left. -/
theorem wearScan_pays {debit : Nat} {g : Segment} {l : List Segment} (h : debit ≤ g.share - g.used) :
    wearScan debit (g :: l) = (g :: l, some 0) := by simp [wearScan, h]

/-- R86, R92: the first pass of a bit just fitted is granted from its first segment, if that holds the debit. -/
theorem askPass_fitted (t : ToolRec) (ask : PassAsk) (hpay : ask.debit d ≤ (segmentShares d).headD 0) :
    askPass ask (s.updTool fun _ => t.fitted d) =
      (s.updTool fun _ => (t.fitted d).charged1 (ask.debit d), some (grantFor ask d 0 (segmentCount d))) := by
  obtain ⟨rest, hshares⟩ := segmentShares_cons d
  have hscan : wearScan (ask.debit d) (t.fitted d).segs = ((t.fitted d).segs, some 0) := by
    rw [fitted_segs, hshares]
    exact wearScan_pays hpay
  have hchecked : (t.fitted d).checked (ask.debit d) = (t.fitted d).segs := congrArg Prod.fst hscan
  rw [askPass_granted (s := s.updTool fun _ => t.fitted d) rfl rfl (congrArg Prod.snd hscan)]
  simp only [State.updTool, hchecked]
  rfl

/-- R87 to R94: the grant of a first segment, as the statements give it. -/
theorem grantFor_first (d : BitDesc) (n : Nat) (recipe : Recipe) (w p : Nat) :
    grantFor { w := w, p := p, recipe := recipe } d 0 n = firstGrant d n recipe w p := by
  simp [grantFor, firstGrant, pathLength, nominalDepth, wearDebit, Config.passStep]

/-! ## The request of a pass (R70) -/

/-- A change that changes nothing of a tab changes nothing. -/
theorem updTab_id (tag i ring : Nat) : (s.updTab tag i ring fun t => t) = s := by
  have hmodify : ∀ l : List TabRec, (l.modify ring fun t => t) = l := List.modify_id ring
  simp [State.updTab, State.updBoard, State.updJob, State.updJobs, hmodify]

/-- R94: a clamped grant marks its tab. -/
theorem updTab_clamped (tag i ring : Nat) (v : Bool) :
    (if v then s.updTab tag i ring fun t => { t with clamped := true } else s) =
      s.updTab tag i ring fun t => { t with clamped := t.clamped || v } := by
  cases v with
  | true => simp only [if_true, Bool.or_true]
  | false =>
    simp only [Bool.false_eq_true, if_false, Bool.or_false]
    exact (updTab_id tag i ring).symm

/-- R132: a pass on a held tab sets the held-pass mark. -/
theorem updPick_held (v : Bool) :
    (if v then s.updPick fun k => { k with heldPass := true } else s) =
      s.updPick fun k => { k with heldPass := k.heldPass || v } := by
  cases v with
  | true => simp only [if_true, Bool.or_true]
  | false =>
    simp only [Bool.false_eq_true, if_false, Bool.or_false]
    rfl

/-- R70, R132: the request of the current job's fixed pass. -/
theorem requestPass_current (x : FixedPass) (held : Bool) (p : Nat) (dir : Axis) (g : Grant) :
    requestPass s.seq.job x.board x.ring held p dir g s =
      { s.fixedRequested x held p g with out := { s.out with sent := s.out.sent ++ fixedSent s x dir g } } := by
  simp only [requestPass, updTab_clamped, updPick_held]
  rfl

/-! ## The choice point of a sequencer in TOOL WAIT (R66, R69, R115) -/

theorem reportFitted_idle (h : s.seq.state ≠ .toolWait) : reportFitted s = s := if_neg h

/-- R66: a choice point with a current job, no pass in flight and no withdrawal pending. -/
theorem reportFitted_chooses (h : s.seq.state = .toolWait) (hj : s.seq.job ≠ 0) (hp : s.seq.pass = none)
    (hw : s.withdrawing s.seq.job = false) :
    reportFitted s =
      if s.mode.mode = .run then chooseInRun s.seq.job s else s.updSeq fun q => { q with state := .ready } := by
  simp [reportFitted, chooseNext, h, hj, hp, hw]

/-- R66: outside RUN the sequencer becomes READY, its fixed pass kept. -/
theorem reportFitted_ready (h : s.seq.state = .toolWait) (hm : s.mode.mode ≠ .run) (hj : s.seq.job ≠ 0)
    (hp : s.seq.pass = none) (hw : s.withdrawing s.seq.job = false) : reportFitted s = s.updSeq fun q => { q with state := .ready } :=
  (reportFitted_chooses h hj hp hw).trans (if_neg hm)

section
variable {x : FixedPass} {held : Bool} {t : TabRec} {recipe : Recipe} {te : TabEntry}

/-- R66, R67: the fixed pass is to be made. -/
theorem fixedReady_of_awaits (h : AwaitsBit s x held t recipe te) : fixedReady s.seq.job x s = some held := by
  obtain ⟨-, -, -, -, -, htab, hpending, -, -, hboard⟩ := h
  rcases hboard with ⟨rfl, hb⟩ | ⟨rfl, hb, hheld⟩
  · simp [fixedReady, htab, hpending, hb]
  · simp [fixedReady, htab, hpending, hb, hheld]

/-- R66, R68: in RUN the fixed pass is started. -/
theorem reportFitted_starts (h : AwaitsBit s x held t recipe te) (hm : s.mode.mode = .run) :
    reportFitted s = startPass s.seq.job x.board x.ring held s := by
  have hready := fixedReady_of_awaits h
  obtain ⟨hstate, hj, hp, hw, hfixed, -⟩ := h
  rw [reportFitted_chooses hstate hj hp hw, if_pos hm]
  simp only [chooseInRun, hfixed, hready]

/-- R68: a pass that is granted is requested. -/
theorem startPass_granted {tag i ring : Nat} {v : State} {g : Grant} (hr : s.jobRecipe? tag = some recipe)
    (he : s.tabEntry? tag i ring = some te) (ht : s.tab? tag i ring = some t)
    (hg : askPass { w := te.w, p := t.used + 1, recipe := recipe } s = (v, some g)) :
    startPass tag i ring held s = requestPass tag i ring held (t.used + 1) te.dir g v := by
  simp only [startPass, hr, he, ht, hg]

/-- R69, R70, R92: for a sequencer in TOOL WAIT a bit just fitted is charged for the fixed pass, which is requested. -/
theorem reportFitted_requests {d : BitDesc} (r : ToolRec) (h : AwaitsBit s x held t recipe te) (hm : s.mode.mode = .run)
    (hpay : (firstGrant d (segmentCount d) recipe te.w (t.used + 1)).debit ≤ (segmentShares d).headD 0) :
    let grant := firstGrant d (segmentCount d) recipe te.w (t.used + 1)
    reportFitted (s.updTool fun _ => r.fitted d) =
      { (s.updTool fun _ => (r.fitted d).charged1 grant.debit).fixedRequested x held (t.used + 1) grant with
        out := { s.out with sent := s.out.sent ++ fixedSent s x te.dir grant } } := by
  intro grant
  have hasked := askPass_fitted (s := s) r { w := te.w, p := t.used + 1, recipe := recipe } hpay
  rw [grantFor_first] at hasked
  have hawaits : AwaitsBit (s.updTool fun _ => r.fitted d) x held t recipe te := h
  obtain ⟨-, -, -, -, -, htab, -, hrecipe, hentry, -⟩ := h
  have hstarts := startPass_granted (s := s.updTool fun _ => r.fitted d) (held := held) hrecipe hentry htab hasked
  exact (reportFitted_starts hawaits hm).trans
    (hstarts.trans (requestPass_current (s := s.updTool fun _ => (r.fitted d).charged1 grant.debit) x held _ _ grant))

end

end Sys2Proof.Machine
end

section
/-! SET TOOL and GET TOOL (R117, R118, R100). -/

namespace Sys2Proof.Machine

variable {s w : State} {d : BitDesc}

theorem exec_setTool : exec .setTool s = request (ofKind 0x30#8) (guarded rawBit handleSetTool) s := rfl

theorem exec_getTool :
    exec .getTool s = request (ofKind 0x32#8) (guarded noFields fun _ s => accept (.tool s.tool) s) s := rfl

/-- R117, step 4: a bit is declared over a fitted one, or with a change begun, only while the cell is still, and never while the
changer moves. -/
theorem takesTool_iff :
    s.takesTool = true ↔
      (s.tool.state = .fitted → s.mode.mode = .paused ∨ s.mode.mode = .stopped) ∧
        (s.tool.state = .changing → (s.mode.mode = .paused ∨ s.mode.mode = .stopped) ∧ s.changerMoving = false) := by
  unfold State.takesTool
  cases s.tool.state with
  | none | expired => simp
  | fitted | changing => simp

theorem handleSetTool_busy (h : d.inRange) (hb : s.seq.pass ≠ none ∨ s.takesTool = false) :
    handleSetTool d s = refuse .busy s := by
  rcases hb with hb | hb <;> simp [handleSetTool, checkBit_inRange h, hb, Option.isSome_iff_ne_none]

theorem handleSetTool_declares (h : d.inRange) (hp : s.seq.pass = none) (ht : s.takesTool = true) (hw : declareBit d s = w) :
    handleSetTool d s = { state := w, body := .ok (.toolSet (segmentCount d) (segmentShares d)) } := by
  simp [handleSetTool, checkBit_inRange h, hp, ht, hw, accept]

/-- R118: the bit's record is rebuilt, the sequencer told, and TOOL STATE queued with what that makes of the record. -/
theorem declareBit_of (h : reportFitted (s.updTool fun _ => s.tool.fitted d) = w) :
    declareBit d s = queueReports [.toolState (toolReportOf .setTool w.tool)] w := by
  rw [← h]
  rfl

/-- Settles O37: BUSY, or the record rebuilt with the three answers of the sequencer's choice point; and the record read. -/
theorem bitDeclared : Obligations.BitDeclared := by
  refine ⟨fun s f rest d ha hm hd => ?_, fun s f rest ha hm => ?_⟩
  · have hn := Asks.ofKind ha
    have hp := whole_encBit hd
    refine ⟨fun hbusy => ?_, fun hpass hfitted hchanging => ?_⟩
    · refine answers_toolReports (l := []) exec_setTool ha hn hm hp (handleSetTool_busy hd ?_) rfl
      refine hbusy.imp_right fun hb => Bool.eq_false_iff.mpr fun ht => ?_
      obtain ⟨hfitted, hchanging⟩ := takesTool_iff.mp ht
      rcases hb with ⟨hf, hstill⟩ | ⟨hc, hmoves⟩
      · exact hstill (hfitted hf)
      · obtain ⟨hstill, hrests⟩ := hchanging hc
        exact hmoves.elim (· hstill) fun hmoves => Bool.false_ne_true (hrests.symm.trans hmoves)
    · intro n shares record report declared
      have htakes : s.takesTool = true := takesTool_iff.mpr ⟨hfitted, hchanging⟩
      have hreport : report = .toolState (toolReportOf .setTool (s.tool.fitted d)) :=
        congrArg Report.toolState (toolReportOf_fitted _ _).symm
      rw [hreport]
      refine ⟨fun hidle => ?_, fun hwaits hmode hjob hstays => ?_, fun x held t recipe te hmode hawaits hpay => ?_⟩
      · exact answers_toolReports (l := [_]) exec_setTool ha hn hm hp
          (handleSetTool_declares hd hpass htakes (declareBit_of (reportFitted_idle hidle))) rfl
      · exact answers_toolReports (l := [_]) exec_setTool ha hn hm hp
          (handleSetTool_declares hd hpass htakes (declareBit_of (reportFitted_ready hwaits hmode hjob hpass hstays))) rfl
      · have hrequests := reportFitted_requests (s := takeFrame rest (beginStep s)) s.tool hawaits hmode hpay
        exact answers_toolReports (l := [_]) exec_setTool ha hn hm hp
          (handleSetTool_declares (s := takeFrame rest (beginStep s)) hd hpass htakes (declareBit_of hrequests)) rfl
  · exact answers_toolReports (l := []) exec_getTool ha (Asks.ofKind ha) hm whole_noFields rfl rfl

end Sys2Proof.Machine
end

section
/-! The ends of a tool change (R122, R123). -/

namespace Sys2Proof.Machine

variable {s w after : State} {op : ChangerOp} {req : ReqNo} {c : Instr} {cause : ToolCause}

/-! ## A change in progress -/

theorem movingChange_of (hop : s.tool.op = some op) (hphase : op.phase = .moving) (hreq : op.req = some req) :
    s.movingChange req = true := by simp [State.movingChange, hop, hphase, hreq]

theorem changerMoving_of (hop : s.tool.op = some op) (hphase : op.phase = .moving) : s.changerMoving = true := by
  simp [State.changerMoving, hop, hphase]

/-! ## The commands -/

theorem exec_changerComplete_applied (hop : s.tool.op = some op) (h : s.movingChange req = true) :
    exec (.changerComplete req) s = applied (fitFromRack op.entry) s := by
  show execChangerComplete req s = _
  simp only [execChangerComplete, hop, h, if_true]

theorem exec_changerComplete_idle (h : s.movingChange req = false) : exec (.changerComplete req) s = notApplied s := by
  show execChangerComplete req s = _
  unfold execChangerComplete
  split
  · exact if_neg (Bool.eq_false_iff.mp h)
  · rfl

theorem exec_changerFault :
    exec (.changerFault req) s =
      if s.movingChange req then applied (fun s => parkTest (failChanger .fault s)) s else notApplied s := rfl

theorem exec_changerWatchExpiry :
    exec .changerWatchExpiry s =
      if s.changerMoving then applied (fun s => parkTest (failChanger .watch (sendPlain .abandonToolChange s))) s
      else notApplied s := rfl

/-- A fault event of BAY DRIVE with the number of the tool change is the changer fault (log entry 25). -/
theorem exec_driveFaultEvent_change (h : s.movingChange req = true) :
    exec (.driveFaultEvent .bay (some req)) s = applied (fun s => parkTest (failChanger .fault s)) s := if_pos h

/-! ## The rack's head is fitted (R122) -/

/-- The record with the rack's head taken. -/
def ToolRec.headTaken (t : ToolRec) : ToolRec := { t with rack := t.rack.drop 1 }

/-- R122: outside PARKING the rack's head is fitted, the sequencer told, and TOOL STATE queued with what that makes of the
record. -/
theorem fitFromRack_of {d : BitDesc} (hm : s.mode.mode ≠ .parking)
    (h : reportFitted (s.updTool fun _ => s.tool.headTaken.fitted d) = w) :
    fitFromRack d s = queueReports [.toolState (toolReportOf .changeDone w.tool)] w := by
  have hmode : w.mode = s.mode := mode_of_fixed (h ▸ reportFitted_fixed _)
  have hwork : fitFromRack d s = parkTest (toolReport .changeDone w) := h ▸ rfl
  rw [hwork, parkTest_other]
  · rfl
  · rw [toolReport, queueReport_mode, hmode]
    exact hm

/-- R122: the completion of the change, as the sequencer's choice point leaves the records. -/
theorem changerComplete_effect {sent : List DriveMsg} (hop : s.tool.op = some op) (hmoves : s.movingChange req = true)
    (hm : s.mode.mode ≠ .parking)
    (h : reportFitted ((beginStep s).updTool fun _ => s.tool.headTaken.fitted op.entry) = after.withSent sent)
    (hlink : after.link = s.link) :
    Effect (.changerComplete req) s after [.toolState (toolReportOf .changeDone after.tool)] sent :=
  effect_toolReports (l := [_]) (exec_changerComplete_applied hop hmoves) (fitFromRack_of hm h) hlink

/-! ## The change fails (R123) -/

/-- R123: the record once a change has failed. -/
def ToolRec.failed (t : ToolRec) : ToolRec := clearBit { t with rack := t.rack.drop 1, op := none }

/-- R123: the state once a change has failed. -/
def State.changeFailed (s : State) : State :=
  (s.updTool ToolRec.failed).updLink fun l => { l with flags := { l.flags with changerFault := true } }

/-- R123: outside PARKING a failed change queues FLAG RAISED and TOOL STATE and does nothing more. -/
theorem parkTest_failChanger (hm : s.mode.mode ≠ .parking) (hf : s.link.flags.changerFault = false) :
    parkTest (failChanger cause s) =
      queueReports
        [ .flagRaised .changerFault (s.link.flags.raise .changerFault), .toolState (toolReportOf cause s.tool.failed) ]
        s.changeFailed := by
  rw [failChanger_clear cause hf, parkTest_other]
  · rfl
  · simpa using hm

/-- R123: an event that fails the change, what it has sent before being `sent`. -/
theorem change_fails {work : State → State} {before : State} {sent : List DriveMsg} (hx : exec c s = applied work s)
    (hw : work (beginStep s) = parkTest (failChanger cause before)) (hb : before = s.withSent sent)
    (hm : s.mode.mode ≠ .parking) (hf : s.link.flags.changerFault = false) :
    Effect c s s.changeFailed
      [.flagRaised .changerFault s.changeFailed.link.flags, .toolState (toolReportOf cause s.tool.failed)] sent := by
  subst hb
  exact effect_reports hx (hw.trans (parkTest_failChanger hm hf)) rfl rfl

/-- Settles O60: the completion, with the three answers of the sequencer's choice point; the three ways a change fails; and the
events that are about no change. -/
theorem changerEnds : Obligations.ChangerEnds := by
  refine ⟨fun s op req hop hphase hreq hm => ?_, fun s req h => ⟨?_, ?_⟩, fun s h => ?_⟩
  · have hmoves := movingChange_of hop hphase hreq
    refine ⟨fun hidle => ?_, fun hwaits hmode hjob hpass hstays => ?_, fun x held t recipe te hmode hawaits hpay => ?_,
      fun hf => ⟨?_, ?_, ?_⟩⟩
    · exact changerComplete_effect hop hmoves hm (reportFitted_idle hidle) rfl
    · exact changerComplete_effect hop hmoves hm (reportFitted_ready hwaits hmode hjob hpass hstays) rfl
    · have hrequests := reportFitted_requests (s := beginStep s) s.tool.headTaken hawaits hmode hpay
      exact changerComplete_effect hop hmoves hm hrequests rfl
    · exact change_fails (exec_changerFault.trans (if_pos hmoves)) rfl rfl hm hf
    · exact change_fails (exec_driveFaultEvent_change hmoves) rfl rfl hm hf
    · exact change_fails (exec_changerWatchExpiry.trans (if_pos (changerMoving_of hop hphase))) rfl rfl hm hf
  · exact exec_changerComplete_idle h
  · exact exec_changerFault.trans (if_neg (Bool.eq_false_iff.mp h))
  · exact exec_changerWatchExpiry.trans (if_neg (Bool.eq_false_iff.mp h))

end Sys2Proof.Machine
end

section
/-! SUPPORT. The head's motions (R129) and what its record makes of them, the effect of a step that queues no report, and the events
of the board that the head serves or carries. -/

namespace Sys2Proof.Machine

variable {s after : State} {c : Instr} {sent : List DriveMsg} {k : MotionKind} {p : PickRec}

/-! ## Steps that queue no report -/

/-- An event whose work makes the records of `after` and sends `sent`, and leaves the link alone, has that effect. -/
theorem effect_quiet {work : State → State} (hx : exec c s = applied work s) (hw : work (beginStep s) = after.withSent sent)
    (hlink : after.link = s.link) : Effect c s after [] sent :=
  effect_reports (l := []) hx hw rfl (by rw [hlink])

/-- An event whose work makes `u` of the state ends its step there. -/
theorem exec_next {work : State → State} {u : State} (hx : exec c s = applied work s) (hw : work (beginStep s) = u) :
    exec c s = .next (finishStep u) := hw ▸ hx

/-! ## Motions -/

theorem motionIs_true {req : ReqNo} (h : s.pick.motion = .inFlight k req) : s.motionIs k req = true := by
  simp [State.motionIs, h]

/-- R129: a motion called for is in flight or held, and is requested where the mode allows it. -/
theorem startMotion_eq (k : MotionKind) (s : State) :
    startMotion k s =
      (s.headed s.pick k).updOut fun o => { o with sent := o.sent ++ motionSent k (motionRequest k s) s } := by
  unfold State.headed PickRec.called motionSent
  by_cases h : k.startsIn s.mode.mode = true
  · simp only [startMotion_sent h, if_pos h]
    rfl
  · simp only [startMotion_held h, if_neg h, List.append_nil]
    rfl

@[simp] theorem headed_pick : (s.headed p k).pick = p.called k s := by unfold State.headed; dsimp only; split <;> rfl
@[simp] theorem headed_link : (s.headed p k).link = s.link := by unfold State.headed; dsimp only; split <;> rfl

theorem headed_withSent (l : List DriveMsg) : (s.withSent l).headed p k = (s.headed p k).withSent l := by
  unfold State.headed
  by_cases h : k.startsIn s.mode.mode = true
  · rw [if_pos h, if_pos (by exact h)]
    rfl
  · rw [if_neg h, if_neg (by exact h)]
    rfl

/-- R129: an event whose work changes the records to those of `u` and then calls for a motion. -/
theorem effect_motion {work : State → State} {u : State} (hx : exec c s = applied work s)
    (hw : work (beginStep s) = startMotion k (u.withSent [])) (hafter : after = u.headed u.pick k)
    (hsent : motionSent k (motionRequest k (u.withSent [])) s = sent) (hm : u.mode = s.mode) (hd : u.drive = s.drive)
    (hlink : u.link = s.link) : Effect c s after [] sent := by
  have hcalled : ∀ what, motionSent k what (u.withSent []) = motionSent k what s := fun _ => by
    unfold motionSent
    rw [show (u.withSent []).mode = s.mode from hm, show (u.withSent []).drive = s.drive from hd]
  refine effect_quiet hx ?_ (by rw [hafter, headed_link, hlink])
  rw [hw, startMotion_eq, hcalled, hsent, hafter, headed_withSent]
  rfl

end Sys2Proof.Machine
end

section
/-! What the completion of each motion of the head does (R130, R135, R136, R140). -/

namespace Sys2Proof.Machine

variable {s : State} {req : ReqNo}

/-! ## The commands -/

theorem exec_approachComplete :
    exec (.approachComplete req) s = if s.motionIs .approach req then applied approachEnds s else notApplied s := rfl

theorem exec_transferComplete :
    exec (.transferComplete req) s = if s.motionIs .transfer req then applied transferEnds s else notApplied s := rfl

theorem exec_parkWaitComplete :
    exec (.parkWaitComplete req) s =
      if s.motionIs .parkWait req then applied (fun s => s.updPick fun p => { p with motion := .none }) s
      else notApplied s := rfl

theorem exec_lowerComplete :
    exec (.lowerComplete req) s = if s.motionIs .lower req then applied releaseBoard s else notApplied s := rfl

theorem exec_returnComplete :
    exec (.returnComplete req) s = if s.motionIs .ret req then applied returnEnds s else notApplied s := rfl

/-- R1: a completion with another number than that of the motion in flight is not applied. -/
theorem motion_notApplied {c : Instr} {k : MotionKind} {work : State → State}
    (hx : exec c s = if s.motionIs k req then applied work s else notApplied s) (h : s.pick.motion ≠ .inFlight k req) :
    exec c s = .next { s with out := emptyOutput } := hx.trans (if_neg (Bool.eq_false_iff.mp (motionIs_false h)))

/-! ## The release of the board (R136) -/

/-- R136: the carried board is PLACING, the demand off, and its destination awaited. -/
theorem releaseBoard_singled {ref : BoardRef} {b : BoardRec} (hc : s.pick.carried = some ref)
    (hb : s.board? ref.job ref.board = some b) (hst : b.state = .singled) :
    releaseBoard s =
      expectPlacement b.dest
        ((s.updBoard ref.job ref.board fun b => { b with state := .placing }).updPick fun p =>
          { p with motion := .none, demand := false, awaited := b.dest, placeWatch := true }) := by
  have hdest : carriedDest s = b.dest := by simp [carriedDest, hc, hb]
  have hstate : (s.updPick fun p => { p with motion := .none, demand := false }).boardState ref.job ref.board = some .singled := by
    show (s.board? ref.job ref.board).map (·.state) = _
    rw [hb, Option.map_some, hst]
  simp only [releaseBoard, hdest, hc]
  rw [boardEvent_open _ _ _ _ .placing (by rw [hstate]; rfl) rfl]
  rfl

/-! ## Back at the park point (R140) -/

/-- R140: the head's record at the park point. -/
def PickRec.parked (p : PickRec) : PickRec :=
  { p with
    head := .idle, motion := .none, demand := false, retry := false, heldPass := false, holdLost := false,
    served := none, carried := none }

/-- R128: with no board queued, or outside RUN, none is served. -/
theorem serveTest_idle (h : s.pick.queue = [] ∨ s.mode.mode ≠ .run) : serveTest s = s := by
  unfold serveTest
  split
  · rfl
  · rename_i hq
    exact if_neg fun hc => h.elim (fun hnil => by simp [hnil] at hq) fun hm => hm hc.2

/-- R128: in RUN an IDLE head serves the first board of the queue. -/
theorem serveTest_serves {ref : BoardRef} {rest : List BoardRef} (hq : s.pick.queue = ref :: rest) (hh : s.pick.head = .idle)
    (hm : s.mode.mode = .run) :
    serveTest s = startMotion .approach (s.updPick fun p => { p with served := some ref, retry := false, head := .approach }) := by
  simp [serveTest, hq, hh, hm]

/-- Settles O55: each completion with its number, then with another. -/
theorem motionsComplete : Obligations.MotionsComplete := by
  refine ⟨fun s req => ⟨fun h => ?approach, fun h => ?transfer, fun h => ?parkWait, fun ref b h hc hb hst => ?lower,
    fun h => ⟨fun hidle => ?idle, fun ref rest hq hm => ?serves⟩⟩, fun s req => ⟨fun h => ?_, fun h => ?_, fun h => ?_,
    fun h => ?_, fun h => ?_⟩⟩
  case approach =>
    have hx := exec_approachComplete.trans (if_pos (motionIs_true h))
    exact effect_quiet (sent := []) hx rfl rfl
  case transfer =>
    have hx := exec_transferComplete.trans (if_pos (motionIs_true h))
    exact effect_motion (u := s.updPick fun p => { p with motion := .none, head := .placing }) hx rfl rfl rfl rfl rfl rfl
  case parkWait =>
    have hx := exec_parkWaitComplete.trans (if_pos (motionIs_true h))
    exact effect_quiet (sent := []) hx rfl rfl
  case lower =>
    have hx := exec_lowerComplete.trans (if_pos (motionIs_true h))
    have hw := releaseBoard_singled (s := beginStep s) hc hb hst
    refine ⟨fun bay first count hd => ?_, fun hd => ?_⟩ <;>
    · rw [hd] at hw ⊢
      exact effect_quiet (sent := []) hx hw rfl
  case idle =>
    have hx := exec_returnComplete.trans (if_pos (motionIs_true h))
    exact effect_quiet (sent := []) hx (serveTest_idle hidle) rfl
  case serves =>
    have hx := exec_returnComplete.trans (if_pos (motionIs_true h))
    have hw : returnEnds (beginStep s) = _ := serveTest_serves hq rfl hm
    have hsent : ∀ what, motionSent .approach what s = [.request .pick s.drive.pick what] := fun _ => by
      simp [motionSent, MotionKind.startsIn, hm]
    exact effect_motion (u := s.updPick fun p => { p.parked with served := some ref, head := .approach }) hx hw rfl (hsent _)
      rfl rfl rfl
  · exact motion_notApplied exec_approachComplete h
  · exact motion_notApplied exec_transferComplete h
  · exact motion_notApplied exec_parkWaitComplete h
  · exact motion_notApplied exec_lowerComplete h
  · exact motion_notApplied exec_returnComplete h

end Sys2Proof.Machine
end

section
/-! SUPPORT. What a placement, a drop or a hold given up is seen by: the head's record, the router's, the slot maps and the runs
awaited, the flags and the boards. One view of the state holds them, and reports, moves of shuttles and jobs, and releases of bays
leave it alone; what an event makes of a board and a raised flag of the flags is said in its terms. -/

namespace Sys2Proof.Machine

variable (s : State)

/-- The part of the state that the reports, the latches, the shuttles and the states of jobs are no part of. -/
structure HeadView where
  pick : PickRec
  route : RouteRec
  mode : ModeRec
  request : ReqNo
  flags : FlagSet
  trayAwaited : Bool
  runs : Bay → Option (List Slot) × Option Run
  board? : Nat → Nat → Option BoardRec
  withdrawing : Nat → Bool

def State.headView (s : State) : HeadView :=
  { pick := s.pick, route := s.route, mode := s.mode, request := s.drive.pick, flags := s.link.flags
    trayAwaited := s.bay.trayAwaited, runs := fun b => ((s.bayRec b).slots, (s.bayRec b).awaited), board? := s.board?
    withdrawing := s.withdrawing }

/-! ## Updates -/

@[simp] theorem updShut_headView (f : ShuttleCtl → ShuttleCtl) : (s.updShut f).headView = s.headView := rfl
@[simp] theorem updSeq_headView (f : SeqRec → SeqRec) : (s.updSeq f).headView = s.headView := rfl
@[simp] theorem updTool_headView (f : ToolRec → ToolRec) : (s.updTool f).headView = s.headView := rfl
@[simp] theorem updOut_headView (f : Output → Output) : (s.updOut f).headView = s.headView := rfl
@[simp] theorem updShuttle_headView (sh : Shuttle) (f : ShuttleRec → ShuttleRec) :
    (s.updShuttle sh f).headView = s.headView := rfl
@[simp] theorem beginStep_headView : (beginStep s).headView = s.headView := rfl

/-- A request to another group than PICK GANTRY takes none of its numbers. -/
theorem sendRequest_headView {g : Group} (h : g ≠ .pick) (w : DriveReq) : (sendRequest g w s).headView = s.headView := by
  cases g with
  | pick => exact absurd rfl h
  | _ => rfl

/-- What becomes of a listed job as one of a tag is changed. -/
theorem updJob_job?_cases (tag n : Nat) (f : Job → Job) (htag : ∀ j, (f j).tag = j.tag) :
    (s.updJob tag f).job? n = s.job? n ∨ (s.updJob tag f).job? n = (s.job? n).map f := by
  rw [updJob_job? s tag n f htag]
  split
  · exact .inr rfl
  · exact .inl rfl

/-- A change of a job that keeps its tag and its cause withdraws none. -/
theorem updJob_withdrawing (tag : Nat) (f : Job → Job) (htag : ∀ j, (f j).tag = j.tag) (hcause : ∀ j, (f j).cause = j.cause) :
    (s.updJob tag f).withdrawing = s.withdrawing := by
  funext n
  unfold State.withdrawing
  rcases updJob_job?_cases s tag n f htag with h | h <;> rw [h]
  cases s.job? n with
  | none => rfl
  | some j => simp [hcause]

@[simp] theorem updBoard_withdrawing (tag i : Nat) (f : BoardRec → BoardRec) :
    (s.updBoard tag i f).withdrawing = s.withdrawing := updJob_withdrawing s tag _ (fun _ => rfl) fun _ => rfl

/-- A change of a job that keeps its boards besides is not seen. -/
theorem updJob_headView (tag : Nat) (f : Job → Job) (htag : ∀ j, (f j).tag = j.tag) (hboards : ∀ j, (f j).boards = j.boards)
    (hcause : ∀ j, (f j).cause = j.cause) : (s.updJob tag f).headView = s.headView := by
  have hboard : (s.updJob tag f).board? = s.board? := by
    funext n i
    unfold State.board?
    rcases updJob_job?_cases s tag n f htag with h | h <;> rw [h]
    cases s.job? n with
    | none => rfl
    | some j => simp [Job.board?, hboards]
  unfold State.headView
  rw [hboard, updJob_withdrawing s tag f htag hcause]
  rfl

theorem updBayRec_bayRec_other {b b' : Bay} (h : b' ≠ b) (f : BayRec → BayRec) :
    (s.updBayRec b f).bayRec b' = s.bayRec b' := by
  have hv : b.val ≠ b'.val := fun hv => h (Fin.ext hv.symm)
  simp [State.updBayRec, State.updBay, State.bayRec, hv]

/-- A change of a bay that keeps its slot map and the run awaited is not seen. -/
theorem updBayRec_headView (b : Bay) (f : BayRec → BayRec) (hslots : ∀ r, (f r).slots = r.slots)
    (hawaited : ∀ r, (f r).awaited = r.awaited) : (s.updBayRec b f).headView = s.headView := by
  have hruns : ∀ b', ((s.updBayRec b f).bayRec b').slots = (s.bayRec b').slots ∧
      ((s.updBayRec b f).bayRec b').awaited = (s.bayRec b').awaited := fun b' => by
    by_cases h : b' = b
    · subst h
      simp [hslots, hawaited]
    · simp [updBayRec_bayRec_other s h f]
  unfold State.headView
  simp only [hruns]
  rfl

/-! ## Reports -/

@[simp] theorem queueReport_headView (r : Report) : (queueReport r s).headView = s.headView := by
  unfold queueReport; (repeat' split) <;> rfl

@[simp] theorem finishStep_headView : (finishStep s).headView = s.headView := by
  unfold State.headView State.board? State.withdrawing State.job? State.bayRec
  simp

/-- R206: a raised flag is seen in the flags only. -/
theorem raiseFlag_headView (x : Flag) : (raiseFlag x s).headView = (s.flagged x).headView := by
  unfold raiseFlag
  split
  · rename_i h
    rw [flagged_set s x h]
  · exact queueReport_headView _ _

/-! ## Jobs and shuttles -/

@[simp] theorem reportJob_headView (tag : Nat) : (reportJob tag s).headView = s.headView := by
  unfold reportJob; split <;> simp

theorem enterJobState_kept (st : JobState) (j : Job) :
    (enterJobState st j).boards = j.boards ∧ (enterJobState st j).cause = j.cause := by
  unfold enterJobState; dsimp only; split <;> exact ⟨rfl, rfl⟩

/-- R20: the states of jobs and their reports are not seen. -/
@[simp] theorem jobEvent_headView (tag : Nat) (e : JobEvent) : (jobEvent tag e id s).headView = s.headView := by
  unfold jobEvent; (repeat' split) <;> try rfl
  rw [reportJob_headView, updJob_headView]
  · exact fun j => enterJobState_tag _ _
  · exact fun j => (enterJobState_kept _ _).1
  · exact fun j => (enterJobState_kept _ _).2

@[simp] theorem arbiterTest_headView : (arbiterTest s).headView = s.headView := by
  unfold arbiterTest grantArea; (repeat' split) <;> simp [sendRequest_headView]

@[simp] theorem askMoveOut_headView (sh : Shuttle) : (askMoveOut sh s).headView = s.headView := by
  unfold askMoveOut startMoveOut; dsimp only; split <;> simp [sendRequest_headView]

@[simp] theorem giveUpJob_headView (tag : Nat) : (giveUpJob tag s).headView = s.headView := by
  unfold giveUpJob; split <;> simp

@[simp] theorem finishAtArea_headView (b : Option Shuttle) : (finishAtArea b s).headView = s.headView := by
  unfold finishAtArea; split <;> simp

/-- R31, R36: nor is the completion of a job. -/
@[simp] theorem completeJob_headView (tag : Nat) : (completeJob tag s).headView = s.headView := by
  unfold completeJob; (repeat' split) <;> simp

/-! ## Bays -/

@[simp] theorem bayReport_headView (b : Bay) (c : BayCause) : (bayReport b c s).headView = s.headView :=
  queueReport_headView s _

@[simp] theorem releaseBay_headView (b : Bay) : (releaseBay b s).headView = s.headView := by
  unfold releaseBay openLatch; dsimp only; split <;> simp [sendRequest_headView, updBayRec_headView]

@[simp] theorem drainTest_headView (b : Bay) : (drainTest b s).headView = s.headView := by
  unfold drainTest; split <;> simp

@[simp] theorem autoSwapTest_headView (b : Bay) : (autoSwapTest b s).headView = s.headView := by
  unfold autoSwapTest askSwap; dsimp only; (repeat' split) <;> simp [updBayRec_headView]

/-! ## Boards -/

@[simp] theorem reportBoard_headView (tag i : Nat) : (reportBoard tag i s).headView = s.headView := by
  unfold reportBoard; split <;> simp

/-- R23, R24: of an event that the table lists for a board's state, what it makes of the board is seen. -/
theorem boardEvent_headView {tag i : Nat} {e : BoardEvent} {st : BoardState}
    (h : (s.boardState tag i).bind (boardNext · e) = some st) :
    (boardEvent tag i e s).headView = (s.updBoard tag i (enterBoardState st)).headView := by
  cases hf : st.final with
  | false => rw [boardEvent_open s tag i e st h hf, enterBoardState_open st hf]
  | true => simp [boardEvent_final s tag i e st h hf]

/-- R23, R24: the board after such an event. -/
theorem boardEvent_board? {tag i : Nat} {e : BoardEvent} {st : BoardState} {b : BoardRec} (hb : s.board? tag i = some b)
    (h : boardNext b.state e = some st) : (boardEvent tag i e s).board? tag i = some (enterBoardState st b) := by
  have hst : (s.boardState tag i).bind (boardNext · e) = some st := by simp [State.boardState, hb, h]
  have hview := congrArg (fun v => HeadView.board? v tag i) (boardEvent_headView s hst)
  refine Eq.trans hview ?_
  show (s.updBoard tag i (enterBoardState st)).board? tag i = _
  rw [updBoard_board?_self _ _ _ _ (enterBoardState_index st), hb, Option.map_some]

/-- An event of a board is not seen elsewhere. -/
theorem boardEvent_elsewhere (tag i : Nat) (e : BoardEvent) :
    (boardEvent tag i e s).headView =
      { s.headView with
        board? := (boardEvent tag i e s).board?, withdrawing := (boardEvent tag i e s).withdrawing } := by
  cases h : (s.boardState tag i).bind (boardNext · e) with
  | none =>
    rw [boardEvent_none s tag i e h]
    rfl
  | some st =>
    have hv := boardEvent_headView s h
    have hboard : (boardEvent tag i e s).board? = _ := congrArg HeadView.board? hv
    have hwithdrawing : (boardEvent tag i e s).withdrawing = _ := congrArg HeadView.withdrawing hv
    rw [hboard, hwithdrawing, hv]
    rfl

section
variable (tag i : Nat) (e : BoardEvent) (b : Bay)

@[simp] theorem boardEvent_pick : (boardEvent tag i e s).pick = s.pick :=
  congrArg HeadView.pick (boardEvent_elsewhere s tag i e)
@[simp] theorem boardEvent_route : (boardEvent tag i e s).route = s.route :=
  congrArg HeadView.route (boardEvent_elsewhere s tag i e)
@[simp] theorem boardEvent_mode : (boardEvent tag i e s).mode = s.mode :=
  congrArg HeadView.mode (boardEvent_elsewhere s tag i e)
@[simp] theorem boardEvent_request : (boardEvent tag i e s).drive.pick = s.drive.pick :=
  congrArg HeadView.request (boardEvent_elsewhere s tag i e)
@[simp] theorem boardEvent_flags : (boardEvent tag i e s).link.flags = s.link.flags :=
  congrArg HeadView.flags (boardEvent_elsewhere s tag i e)
@[simp] theorem boardEvent_trayAwaited : (boardEvent tag i e s).bay.trayAwaited = s.bay.trayAwaited :=
  congrArg HeadView.trayAwaited (boardEvent_elsewhere s tag i e)
@[simp] theorem boardEvent_map : ((boardEvent tag i e s).bayRec b).map = (s.bayRec b).map :=
  congrArg (fun v => (HeadView.runs v b).1.getD []) (boardEvent_elsewhere s tag i e)
@[simp] theorem boardEvent_awaited : ((boardEvent tag i e s).bayRec b).awaited = (s.bayRec b).awaited :=
  congrArg (fun v => (HeadView.runs v b).2) (boardEvent_elsewhere s tag i e)
end

/-! ## The head -/

@[simp] theorem startMotion_pick (k : MotionKind) : (startMotion k s).pick = s.pick.called k s := by
  rw [startMotion_eq]; exact headed_pick
@[simp] theorem startMotion_link (k : MotionKind) : (startMotion k s).link = s.link := by
  rw [startMotion_eq]; exact headed_link
@[simp] theorem startMotion_route (k : MotionKind) : (startMotion k s).route = s.route := by
  unfold startMotion; split <;> rfl
@[simp] theorem startMotion_bay (k : MotionKind) : (startMotion k s).bay = s.bay := by unfold startMotion; split <;> rfl
@[simp] theorem startMotion_seq (k : MotionKind) : (startMotion k s).seq = s.seq := by unfold startMotion; split <;> rfl
@[simp] theorem startMotion_board? (k : MotionKind) : (startMotion k s).board? = s.board? := by
  funext tag i; simp [State.board?, State.job?]

@[simp] theorem raiseFlag_pick (x : Flag) : (raiseFlag x s).pick = s.pick := by unfold raiseFlag; split <;> simp
@[simp] theorem raiseFlag_route (x : Flag) : (raiseFlag x s).route = s.route := by unfold raiseFlag; split <;> simp
@[simp] theorem raiseFlag_bay (x : Flag) : (raiseFlag x s).bay = s.bay := by unfold raiseFlag; split <;> simp
@[simp] theorem raiseFlag_seq (x : Flag) : (raiseFlag x s).seq = s.seq := by unfold raiseFlag; split <;> simp
@[simp] theorem raiseFlag_mode (x : Flag) : (raiseFlag x s).mode = s.mode := mode_of_fixed (raiseFlag_fixed s x)
@[simp] theorem raiseFlag_board? (x : Flag) : (raiseFlag x s).board? = s.board? :=
  congrArg HeadView.board? (raiseFlag_headView s x)

theorem raiseFlag_sent (x : Flag) : (raiseFlag x s).out.sent = s.out.sent := by
  unfold raiseFlag; split
  · rfl
  · exact queueReport_sent _ _

/-- R206: what a raised flag makes of the flags. -/
theorem raiseFlag_flags (x : Flag) : (raiseFlag x s).link.flags = (s.flagged x).link.flags :=
  congrArg HeadView.flags (raiseFlag_headView s x)

@[simp] theorem finishStep_board? : (finishStep s).board? = s.board? := congrArg HeadView.board? (finishStep_headView s)

/-- R131, R134, R142: an empty head returns. -/
@[simp] theorem returnEmpty_pick :
    (returnEmpty s).pick =
      PickRec.called { s.pick with demand := false, vacWatch := false, holdLost := false, served := none, head := .returning }
        .ret s := startMotion_pick _ _
@[simp] theorem returnEmpty_link : (returnEmpty s).link = s.link := startMotion_link _ _
@[simp] theorem returnEmpty_seq : (returnEmpty s).seq = s.seq := startMotion_seq _ _
@[simp] theorem returnEmpty_board? : (returnEmpty s).board? = s.board? := startMotion_board? _ _

@[simp] theorem leaveHoldList_board? (tag i : Nat) : (leaveHoldList tag i s).board? = s.board? := rfl

end Sys2Proof.Machine
end

section
/-! SUPPORT. The records that the events of boards leave alone beside those that the head is seen by: the Cut Sequencer's, which a
completed job empties, and the geometry of a board. -/

namespace Sys2Proof.Machine

variable (s : State)

/-- R23: an event that the table lists for a board's state, and that does not finish the board. -/
theorem boardEvent_moves {s : State} {tag i : Nat} {e : BoardEvent} {st st' : BoardState} (h : s.boardState tag i = some st)
    (hn : boardNext st e = some st') (ho : st'.final = false) :
    boardEvent tag i e s = s.updBoard tag i fun b => { b with state := st' } :=
  boardEvent_open s tag i e st' (by rw [h]; exact hn) ho

/-! ## The Cut Sequencer's record -/

@[simp] theorem reportJob_seq (tag : Nat) : (reportJob tag s).seq = s.seq := by unfold reportJob; split <;> simp
@[simp] theorem jobEvent_seq (tag : Nat) (e : JobEvent) (f : Job → Job) : (jobEvent tag e f s).seq = s.seq := by
  unfold jobEvent; (repeat' split) <;> simp
@[simp] theorem arbiterTest_seq : (arbiterTest s).seq = s.seq := by
  unfold arbiterTest grantArea; (repeat' split) <;> simp
@[simp] theorem finishAtArea_seq (b : Option Shuttle) : (finishAtArea b s).seq = s.seq := by
  unfold finishAtArea askMoveOut startMoveOut; dsimp only; (repeat' split) <;> simp
@[simp] theorem reportBoard_seq (tag i : Nat) : (reportBoard tag i s).seq = s.seq := by unfold reportBoard; split <;> simp

/-- R79: a sequencer that gives up its job is IDLE. -/
theorem completeJob_seqState (tag : Nat) : (completeJob tag s).seq.state = s.seq.state ∨ (completeJob tag s).seq.state = .idle := by
  have hgive : ∀ u : State, (giveUpJob tag u).seq.state = u.seq.state ∨ (giveUpJob tag u).seq.state = .idle := fun u => by
    unfold giveUpJob; split <;> simp
  unfold completeJob
  (repeat' split) <;> try exact .inl rfl
  · rw [finishAtArea_seq]
    exact hgive s
  · rw [finishAtArea_seq]
    have h := hgive (jobEvent tag .withdrawalDone id s)
    rwa [jobEvent_seq] at h

/-- R75: an event of a board does not bring the sequencer to AWAIT HOLD. -/
theorem boardEvent_notAwaiting (tag i : Nat) (e : BoardEvent) (h : s.seq.state ≠ .awaitHold) :
    (boardEvent tag i e s).seq.state ≠ .awaitHold := by
  cases hn : (s.boardState tag i).bind (boardNext · e) with
  | none => rwa [boardEvent_none s tag i e hn]
  | some st =>
    cases hf : st.final with
    | false => rwa [boardEvent_open s tag i e st hn hf]
    | true =>
      rw [boardEvent_final s tag i e st hn hf]
      rcases completeJob_seqState (reportBoard tag i (s.updBoard tag i (enterBoardState st))) tag with hc | hc <;> rw [hc]
      · simpa using h
      · exact nofun

theorem chooseIfAwaiting_idle {s : State} (h : s.seq.state ≠ .awaitHold) : chooseIfAwaiting s = s := if_neg h

/-! ## The recipe and the geometry of a board -/

/-- A change of a job that keeps its tag, its recipe and its orientation leaves the recipe and the positions of boards alone. -/
theorem updJob_geometry (tag : Nat) (f : Job → Job) (htag : ∀ j, (f j).tag = j.tag) (hrecipe : ∀ j, (f j).recipe = j.recipe)
    (hori : ∀ j, (f j).orientation = j.orientation) :
    (s.updJob tag f).jobRecipe? = s.jobRecipe? ∧ (s.updJob tag f).boardEntry? = s.boardEntry? ∧
      (s.updJob tag f).positions = s.positions := by
  have hr : (s.updJob tag f).jobRecipe? = s.jobRecipe? := by
    funext n
    unfold State.jobRecipe?
    rcases updJob_job?_cases s tag n f htag with h | h <;> rw [h]
    · rfl
    · cases s.job? n with
      | none => rfl
      | some j => simp [hrecipe]
  have he : (s.updJob tag f).boardEntry? = s.boardEntry? := by
    funext n i
    unfold State.boardEntry?
    rw [hr]
  refine ⟨hr, he, ?_⟩
  funext n i
  unfold State.positions
  rw [hr, he]
  rcases updJob_job?_cases s tag n f htag with h | h <;> rw [h]
  cases s.job? n with
  | none => rfl
  | some j => cases s.jobRecipe? n <;> cases s.boardEntry? n i <;> simp [hori]

variable (tag i : Nat) (f : BoardRec → BoardRec)

theorem updBoard_geometry :
    (s.updBoard tag i f).jobRecipe? = s.jobRecipe? ∧ (s.updBoard tag i f).boardEntry? = s.boardEntry? ∧
      (s.updBoard tag i f).positions = s.positions :=
  updJob_geometry s tag _ (fun _ => rfl) (fun _ => rfl) fun _ => rfl

@[simp] theorem updBoard_jobRecipe? : (s.updBoard tag i f).jobRecipe? = s.jobRecipe? := (updBoard_geometry s tag i f).1
@[simp] theorem updBoard_positions : (s.updBoard tag i f).positions = s.positions := (updBoard_geometry s tag i f).2.2
@[simp] theorem updBoard_product : (s.updBoard tag i f).product = s.product := by
  obtain ⟨-, hentry, -⟩ := updBoard_geometry s tag i f
  funext n m
  unfold State.product
  rw [hentry]

end Sys2Proof.Machine
end

section
/-! Vacuum made, vacuum lost and the vacuum watch (R130, R131, R133, R138). -/

namespace Sys2Proof.Machine

variable {s : State} {ref : BoardRef}

/-! ## The commands -/

theorem exec_vacuumMade :
    exec .vacuumMade s = if s.pick.head = .approach ∧ s.pick.demand = true then applied grantHold s else notApplied s := rfl

theorem exec_vacuumLost :
    exec .vacuumLost s =
      if s.pick.head.canLose = true ∧ s.pick.demand = true then applied loseVacuum s else notApplied s := rfl

theorem exec_vacuumWatchExpiry :
    exec .vacuumWatchExpiry s =
      if s.pick.vacWatch = true ∧ s.pick.head = .approach then applied vacuumWatchExpires s else notApplied s := rfl

theorem exec_vacuumLost_taken (hh : s.pick.head.canLose = true) (hd : s.pick.demand = true) :
    exec .vacuumLost s = applied loseVacuum s := exec_vacuumLost.trans (if_pos ⟨hh, hd⟩)

/-! ## The hold (R130, R133) -/

/-- R128: an APPROACH motion carries the served board and its pick point. -/
theorem motionRequest_approach {ps : List (Nat × Nat)} (hs : s.pick.served = some ref)
    (hp : s.positions ref.job ref.board = ps) :
    motionRequest .approach s = .approach ref (pickPoint ps).1 (pickPoint ps).2 := by
  subst hp
  simp only [motionRequest, hs]

/-- R130: the served board is HELD; a sequencer that does not wait for a hold makes no choice. -/
theorem grantHold_pending (hs : s.pick.served = some ref) (hst : s.boardState ref.job ref.board = some .holdPending)
    (hq : s.seq.state ≠ .awaitHold) :
    grantHold s =
      (s.updBoard ref.job ref.board fun b => { b with state := .held }).updPick fun p =>
        { p with vacWatch := false, head := .holding } := by
  simp only [grantHold, State.updPick_pick, hs]
  rw [boardEvent_moves (s := s.updPick _) hst rfl rfl]
  exact chooseIfAwaiting_idle hq

/-- R133: what a loss on a held board does. -/
theorem loseVacuum_holding (hh : s.pick.head = .holding) (hs : s.pick.served = some ref) :
    loseVacuum s = if s.pick.heldPass then s.updPick fun p => { p with holdLost := true } else loseHold ref s := by
  simp only [loseVacuum, hh, hs]

/-- R138: a loss in transit drops the board. -/
theorem loseVacuum_carried (hh : s.pick.head = .transfer ∨ s.pick.head = .placing) (hc : s.pick.carried = some ref) :
    loseVacuum s = dropCarried ref s := by
  rcases hh with hh | hh <;> simp only [loseVacuum, hh, hc]

/-- R133: a hold lost for the first time is sought again. -/
theorem loseHold_retries (hst : s.boardState ref.job ref.board = some .held) (hr : s.pick.retry = false) :
    loseHold ref s =
      startMotion .approach
        ((s.updBoard ref.job ref.board fun b => { b with state := .holdPending }).updPick fun p =>
          { p with demand := false, retry := true, head := .approach }) := by
  simp only [loseHold]
  rw [boardEvent_moves (s := s.updPick _) hst rfl rfl]
  exact if_neg (by simp [hr])

/-- R131: with the retry spent the hold is given up. -/
theorem giveUpHold_eq (hq : s.seq.state ≠ .awaitHold) :
    giveUpHold ref s =
      returnEmpty (leaveHoldList ref.job ref.board
        (raiseFlag .holdFail (boardEvent ref.job ref.board .holdGivenUp
          (s.updPick fun p => { p with demand := false, vacWatch := false })))) := by
  refine chooseIfAwaiting_idle ?_
  rw [returnEmpty_seq]
  have h := boardEvent_notAwaiting (s.updPick fun p => { p with demand := false, vacWatch := false }) ref.job ref.board
    .holdGivenUp hq
  simp only [leaveHoldList, State.updPick_seq, State.updSeq_seq, raiseFlag_seq]
  split <;> exact h

/-- R131: a hold given up leaves the board HOLD FAILED and the head empty on its way back. -/
theorem giveUpHold_failed (hst : s.boardState ref.job ref.board = some .holdPending) (hq : s.seq.state ≠ .awaitHold) :
    (giveUpHold ref s).boardState ref.job ref.board = some .holdFailed ∧ (giveUpHold ref s).link.flags.holdFail = true ∧
      (giveUpHold ref s).pick =
        PickRec.called
          { s.pick with
            demand := false, vacWatch := false, holdLost := false, served := none, head := .returning
            queue := s.pick.queue.filter (· != ref) } .ret s := by
  obtain ⟨b, hb, hbs⟩ := Option.map_eq_some_iff.mp hst
  have hboard := boardEvent_board? (s.updPick fun p => { p with demand := false, vacWatch := false }) (e := .holdGivenUp) hb
    (by rw [hbs]; rfl)
  rw [giveUpHold_eq hq]
  refine ⟨?_, ?_, ?_⟩
  · rw [State.boardState, returnEmpty_board?, leaveHoldList_board?, raiseFlag_board?, hboard]
    simp
  · rw [returnEmpty_link]
    exact raiseFlag_flags_get .holdFail
  · simp only [returnEmpty_pick, leaveHoldList, State.updPick_pick, State.updSeq_pick, PickRec.called, State.updPick_mode,
      State.updSeq_mode, State.updPick_drive, State.updSeq_drive, raiseFlag_pick, raiseFlag_mode, raiseFlag_drive, boardEvent_pick,
      boardEvent_mode, boardEvent_request]

/-! ## The drop (R138) -/

@[simp] theorem releaseDestination_board? (d : Destination) : (releaseDestination ref d s).board? = s.board? := by
  cases d with
  | run b first count => exact congrArg HeadView.board? (drainTest_headView _ _)
  | _ => rfl

/-- R138: a board dropped before its release is DROPPED with no destination, and the head returns empty. -/
theorem dropCarried_dropped {b : BoardRec} (hb : s.board? ref.job ref.board = some b) (hst : b.state = .singled) :
    (dropCarried ref s).board? ref.job ref.board = some (enterBoardState .dropped b) ∧
      (dropCarried ref s).link.flags.drop = true ∧ (dropCarried ref s).pick.carried = none ∧
      (dropCarried ref s).pick.demand = false ∧ (dropCarried ref s).pick.head = .returning := by
  have hboard := boardEvent_board? (s.updPick fun p => { p with motion := .none }) (e := .vacuumLost) hb (by rw [hst]; rfl)
  unfold dropCarried
  refine ⟨?_, ?_, ?_, ?_, ?_⟩
  · rw [startMotion_board?]
    show (raiseFlag .drop _).board? _ _ = _
    rw [raiseFlag_board?, releaseDestination_board?, hboard]
  · rw [startMotion_link]
    exact raiseFlag_flags_get .drop
  all_goals rw [startMotion_pick]; rfl

/-- Settles O54: the hold granted, lost, missed once and missed twice; the drop; and the events that are not taken. -/
theorem vacuumFollowed : Obligations.VacuumFollowed := by
  refine ⟨fun s ref hs => ⟨fun hh hd hst hq => ?granted, fun hh hd hp => ?duringPass, fun hh hd hp hr hst => ?lost,
    fun hh hw hr => ?missedOnce, fun hh hw hr hst hq => ?missedTwice⟩, fun s ref hc hh hd hst => ?dropped, fun s h => ?_,
    fun s h => ?_, fun s h => ?_⟩
  case granted =>
    exact effect_quiet (sent := []) (exec_vacuumMade.trans (if_pos ⟨hh, hd⟩)) (grantHold_pending hs hst hq) rfl
  case duringPass =>
    have hw := (loseVacuum_holding (s := beginStep s) hh hs).trans (if_pos hp)
    exact effect_quiet (sent := []) (exec_vacuumLost_taken (by rw [hh]; rfl) hd) hw rfl
  case lost =>
    have hw := ((loseVacuum_holding (s := beginStep s) hh hs).trans (if_neg (by simp [hp]))).trans (loseHold_retries hst hr)
    refine effect_motion
      (u := (s.updBoard ref.job ref.board fun b => { b with state := .holdPending }).updPick fun p =>
        { p with demand := false, retry := true, head := .approach })
      (exec_vacuumLost_taken (by rw [hh]; rfl) hd) hw rfl ?_ rfl rfl rfl
    exact congrArg (motionSent .approach · s)
      (motionRequest_approach hs (congrFun (congrFun (updBoard_positions s ref.job ref.board _) _) _))
  case missedOnce =>
    have hexpires : vacuumWatchExpires (beginStep s) = _ := if_neg (by simp [hr])
    refine effect_motion (u := s.updPick fun p => { p with demand := false, retry := true, vacWatch := false })
      (exec_vacuumWatchExpiry.trans (if_pos ⟨hw, hh⟩)) hexpires rfl ?_ rfl rfl rfl
    exact congrArg (motionSent .approach · s) (motionRequest_approach hs rfl)
  case missedTwice =>
    have hexpires : vacuumWatchExpires (beginStep s) = giveUpHold ref (beginStep s) := by
      simp only [vacuumWatchExpires, beginStep_pick, hr, hs, if_true]
    obtain ⟨hboard, hflag, hpick⟩ := giveUpHold_failed (s := beginStep s) hst hq
    refine ⟨_, exec_next (exec_vacuumWatchExpiry.trans (if_pos ⟨hw, hh⟩)) hexpires, ?_⟩
    rw [State.boardState, finishStep_board?, finishStep_flags, finishStep_pick, hpick]
    exact ⟨hboard, hflag, rfl, rfl, rfl, rfl⟩
  case dropped =>
    obtain ⟨b, hb, hbs⟩ := Option.map_eq_some_iff.mp hst
    obtain ⟨hboard, hflag, hcarried, hdemand, hhead⟩ := dropCarried_dropped (s := beginStep s) hb hbs
    refine ⟨_, exec_next (exec_vacuumLost_taken (by rcases hh with hh | hh <;> rw [hh] <;> rfl) hd)
      (loseVacuum_carried hh hc), ?_⟩
    rw [State.boardState, finishStep_board?, finishStep_flags, finishStep_pick, hboard]
    exact ⟨rfl, rfl, hflag, hcarried, hdemand, hhead⟩
  · exact exec_vacuumMade.trans (if_neg (by rcases h with h | h <;> simp [h]))
  · exact exec_vacuumLost.trans (if_neg (by rcases h with h | h | h | h <;> simp [h, HeadState.canLose]))
  · exact exec_vacuumWatchExpiry.trans (if_neg (by rcases h with h | h <;> simp [h]))

end Sys2Proof.Machine
end

section
/-! A placement confirmed or lost (R137, R168, R169, R170). -/

namespace Sys2Proof.Machine

variable {s t : State} {ref : BoardRef} {b : Bay} {slot first : Nat} {h : RunHead} {x : BoardRec}

/-! ## The commands -/

theorem exec_slotSeated :
    exec (.slotSeated b slot) s =
      if (s.bayRec b).state.accepted = true ∧ s.bayFitted b = true then applied (slotSeen b slot) s else notApplied s := rfl

theorem exec_trayEntry : exec .trayEntry s = if s.bay.trayAwaited then applied confirmTray s else notApplied s := rfl

theorem exec_placeWatchExpiry :
    exec .placeWatchExpiry s = if s.pick.placeWatch then applied losePlacement s else notApplied s := rfl

/-! ## Slot maps -/

/-- A slot that heads a run lies in the map. -/
theorem lt_length_of_runHead? {slots : List Slot} (hr : runHead? slots first = some h) :
    first < slots.length := by
  unfold runHead? at hr
  split at hr
  · rename_i hget
    exact (List.getElem?_eq_some_iff.mp hget).1
  · cases hr

/-- R163: the slot that heads a run which is set. -/
theorem setRun_getElem? {slots : List Slot} (st : SlotState) (h : RunHead) (hlt : first < slots.length) :
    (setRun st first h slots)[first]? = some { state := st, ref := .head h } := by
  simp [setRun, hlt]

/-- R168, R170: the slot that heads a run which changes state. -/
theorem restateRun_getElem? {slots : List Slot} (st : SlotState) (cause : Option BlockCause)
    (hr : runHead? slots first = some h) :
    (restateRun st first cause slots)[first]? = some { state := st, ref := .head { h with cause := cause } } := by
  unfold restateRun
  rw [hr]
  exact setRun_getElem? _ _ (lt_length_of_runHead? hr)

/-- A change of a bay's slots, on a map that is not empty. -/
theorem mapSlots_map {f : List Slot → List Slot} (hlt : first < (s.bayRec b).map.length) :
    ((mapSlots b f s).bayRec b).map = f (s.bayRec b).map := by
  unfold mapSlots BayRec.map at *
  rw [updBayRec_bayRec]
  cases hs : (s.bayRec b).slots with
  | none => simp [hs] at hlt
  | some l => rfl

/-- R168, R170: a run that changes state is no longer awaited. -/
theorem restated_seen (st : SlotState) (cause : Option BlockCause)
    (hr : runHead? (s.bayRec b).map first = some h) :
    let w := (mapSlots b (restateRun st first cause) s).updBayRec b fun r => { r with awaited := none }
    (w.bayRec b).awaited = none ∧
      (w.bayRec b).map[first]? = some { state := st, ref := .head { h with cause := cause } } := by
  dsimp only
  rw [updBayRec_bayRec]
  refine ⟨rfl, ?_⟩
  show ((mapSlots b (restateRun st first cause) s).bayRec b).map[first]? = _
  rw [mapSlots_map (lt_length_of_runHead? hr)]
  exact restateRun_getElem? st cause hr

/-! ## The end of a placement (R137) -/

/-- R137: the head's record once a placement is settled. -/
def PickRec.settled (p : PickRec) : PickRec :=
  { p with placeWatch := false, awaited := .none, carried := none, head := .returning }

/-- R129: a motion called for is recorded by the mode and the group's next number. -/
theorem called_congr {u : State} (p : PickRec) (k : MotionKind) (hm : u.mode = s.mode) (hd : u.drive.pick = s.drive.pick) :
    p.called k u = p.called k s := by
  unfold PickRec.called
  rw [hm, hd]

@[simp] theorem updRoute_board? (f : RouteRec → RouteRec) : (s.updRoute f).board? = s.board? := rfl

/-- What is seen of a step that ends as a placement is settled: the head returns, its record having been as in `s`, and all else is
as it was in `w`. -/
theorem settleHead_seen {u w : State} (ht : t.headView = (settleHead u).headView) (hu : u.headView = w.headView)
    (hp : w.pick = s.pick) (hm : w.mode = s.mode) (hd : w.drive.pick = s.drive.pick) :
    t.pick = s.pick.settled.called .ret s ∧ t.route = w.route ∧ t.link.flags = w.link.flags ∧
      t.bay.trayAwaited = w.bay.trayAwaited ∧ t.board? = w.board? ∧
      ∀ b, (t.bayRec b).map = (w.bayRec b).map ∧ (t.bayRec b).awaited = (w.bayRec b).awaited := by
  have hpick : t.pick = u.pick.settled.called .ret u := (congrArg HeadView.pick ht).trans (startMotion_pick _ _)
  have hcalled : u.pick.settled.called .ret u = s.pick.settled.called .ret s := by
    rw [show u.pick = s.pick from (congrArg HeadView.pick hu).trans hp]
    exact called_congr _ _ ((congrArg HeadView.mode hu).trans hm) ((congrArg HeadView.request hu).trans hd)
  have hsame : ∀ {α : Type} (field : HeadView → α), field (settleHead u).headView = field u.headView →
      field t.headView = field w.headView := fun field h => by rw [ht, h, hu]
  have hbay : (settleHead u).bay = u.bay := startMotion_bay _ _
  refine ⟨hpick.trans hcalled, hsame HeadView.route (startMotion_route _ _),
    hsame HeadView.flags (congrArg Link.flags (startMotion_link _ _)),
    hsame HeadView.trayAwaited (congrArg BayCtl.trayAwaited hbay), hsame HeadView.board? (startMotion_board? _ _),
    fun b => ⟨?_, ?_⟩⟩
  · exact hsame (fun v => (v.runs b).1.getD []) (congrArg (fun c : BayCtl => c.bays[b].map) hbay)
  · exact hsame (fun v => (v.runs b).2) (congrArg (fun c : BayCtl => c.bays[b].awaited) hbay)

/-! ## Confirmed (R168, R169) -/

theorem slotSeen_awaited {run : Run} (h : (s.bayRec b).awaited = some run) (hlo : run.first ≤ slot)
    (hhi : slot < run.first + run.count) : slotSeen b slot s = confirmRun b run s := by
  simp [slotSeen, h, Run.covers, hlo, hhi]

/-- R168: the carried board is PLACED, its run OCCUPIED and no longer awaited, and the head returns. -/
theorem confirmRun_placed {run : Run} (ht : t.headView = (confirmRun b run s).headView) (hc : s.pick.carried = some ref)
    (hx : s.board? ref.job ref.board = some x) (hst : x.state = .placing) (hr : runHead? (s.bayRec b).map run.first = some h) :
    t.boardState ref.job ref.board = some .placed ∧ t.pick = s.pick.settled.called .ret s ∧ (t.bayRec b).awaited = none ∧
      (t.bayRec b).map[run.first]? = some { state := .occupied, ref := .head { h with cause := none } } := by
  simp only [confirmRun, hc, drainTest_headView] at ht
  obtain ⟨hpick, -, -, -, hboard, hruns⟩ := settleHead_seen ht rfl (boardEvent_pick _ _ _ _) (boardEvent_mode _ _ _ _)
    (boardEvent_request _ _ _ _)
  have hplaced := boardEvent_board? (occupyRun b run.first s) (e := .slotConfirmed) hx (by rw [hst]; rfl)
  obtain ⟨hawaited, hmap⟩ := restated_seen .occupied none hr
  refine ⟨?_, hpick, ?_, ?_⟩
  · rw [State.boardState, hboard, hplaced, Option.map_some, enterBoardState_state]
  · rw [(hruns b).2, boardEvent_awaited]
    exact hawaited
  · rw [(hruns b).1, boardEvent_map]
    exact hmap

/-- R169: the carried board is REJECTED, the tray's count one higher, and the head returns. -/
theorem confirmTray_rejected (ht : t.headView = (confirmTray s).headView) (hc : s.pick.carried = some ref)
    (hx : s.board? ref.job ref.board = some x) (hst : x.state = .placing) :
    t.boardState ref.job ref.board = some .rejected ∧ t.pick = s.pick.settled.called .ret s ∧ t.bay.trayAwaited = false ∧
      t.route = { s.route with trayCount := s.route.trayCount + 1, trayInProgress := false } := by
  simp only [confirmTray, hc] at ht
  obtain ⟨hpick, hroute, -, htray, hboard, -⟩ := settleHead_seen ht rfl (boardEvent_pick _ _ _ _) (boardEvent_mode _ _ _ _)
    (boardEvent_request _ _ _ _)
  have hrejected := boardEvent_board? (s.updBay fun c => { c with trayAwaited := false }) (e := .trayConfirmed) hx
    (by rw [hst]; rfl)
  refine ⟨?_, hpick, ?_, ?_⟩
  · rw [State.boardState, hboard, updRoute_board?, hrejected, Option.map_some, enterBoardState_state]
  · rw [htray, State.updRoute_bay, boardEvent_trayAwaited]
    rfl
  · rw [hroute, State.updRoute_route, boardEvent_route]
    rfl

/-! ## Lost (R170) -/

/-- R170: the carried board is LOST and PLACE LOST set, the run BLOCKED and no longer awaited, and the head returns. -/
theorem losePlacement_run {count : Nat} (ht : t.headView = (losePlacement s).headView) (hc : s.pick.carried = some ref)
    (hx : s.board? ref.job ref.board = some x) (hst : x.state = .placing) (ha : s.pick.awaited = .run b first count)
    (hr : runHead? (s.bayRec b).map first = some h) :
    t.boardState ref.job ref.board = some .lost ∧ t.pick = s.pick.settled.called .ret s ∧ t.link.flags.placeLost = true ∧
      (t.bayRec b).awaited = none ∧
      (t.bayRec b).map[first]? = some { state := .blocked, ref := .head { h with cause := some .place } } := by
  have hcarried : (blockRun b first (raiseFlag .placeLost s)).pick.carried = some ref :=
    (congrArg PickRec.carried (raiseFlag_pick s _)).trans hc
  have hraised : (raiseFlag .placeLost s).board? ref.job ref.board = some x := by rw [raiseFlag_board?, hx]
  simp only [losePlacement, ha, loseBoard, hcarried] at ht
  obtain ⟨hpick, -, hflags, -, hboard, hruns⟩ := settleHead_seen ht
    ((drainTest_headView _ b).trans (bayReport_headView _ b _)) ((boardEvent_pick _ _ _ _).trans (raiseFlag_pick s _))
    ((boardEvent_mode _ _ _ _).trans (raiseFlag_mode s _))
    ((boardEvent_request _ _ _ _).trans (congrArg PerGroup.pick (raiseFlag_drive _)))
  have hlost := boardEvent_board? (blockRun b first (raiseFlag .placeLost s)) (e := .placementLost) hraised (by rw [hst]; rfl)
  obtain ⟨hawaited, hmap⟩ := restated_seen (s := raiseFlag .placeLost s) (b := b) (h := h) .blocked (some .place)
    (by rw [State.bayRec, raiseFlag_bay]; exact hr)
  refine ⟨?_, hpick, ?_, ?_, ?_⟩
  · rw [State.boardState, hboard, hlost, Option.map_some, enterBoardState_state]
  · rw [hflags, boardEvent_flags]
    exact raiseFlag_flags_get .placeLost
  · rw [(hruns b).2, boardEvent_awaited]
    exact hawaited
  · rw [(hruns b).1, boardEvent_map]
    exact hmap

/-- R170: a board lost over the tray, which is no longer awaited. -/
theorem losePlacement_tray (ht : t.headView = (losePlacement s).headView) (hc : s.pick.carried = some ref)
    (hx : s.board? ref.job ref.board = some x) (hst : x.state = .placing) (ha : s.pick.awaited = .tray) :
    t.boardState ref.job ref.board = some .lost ∧ t.pick = s.pick.settled.called .ret s ∧ t.link.flags.placeLost = true ∧
      t.bay.trayAwaited = false ∧ t.route = { s.route with trayInProgress := false } := by
  have hraised : (raiseFlag .placeLost s).board? ref.job ref.board = some x := by rw [raiseFlag_board?, hx]
  simp only [losePlacement, ha, loseBoard, State.updBay_pick, raiseFlag_pick, hc] at ht
  obtain ⟨hpick, hroute, hflags, htray, hboard, -⟩ := settleHead_seen ht rfl
    ((boardEvent_pick _ _ _ _).trans (raiseFlag_pick s _)) ((boardEvent_mode _ _ _ _).trans (raiseFlag_mode s _))
    ((boardEvent_request _ _ _ _).trans (congrArg PerGroup.pick (raiseFlag_drive _)))
  have hlost := boardEvent_board? ((raiseFlag .placeLost s).updBay fun c => { c with trayAwaited := false })
    (e := .placementLost) hraised (by rw [hst]; rfl)
  refine ⟨?_, hpick, ?_, ?_, ?_⟩
  · rw [State.boardState, hboard, updRoute_board?, hlost, Option.map_some, enterBoardState_state]
  · rw [hflags, State.updRoute_link, boardEvent_flags]
    exact raiseFlag_flags_get .placeLost
  · rw [htray, State.updRoute_bay, boardEvent_trayAwaited]
    rfl
  · rw [hroute, State.updRoute_route, boardEvent_route, State.updBay_route, raiseFlag_route]

/-- Settles O56: the run confirmed, the tray confirmed, either lost, and the events that settle nothing. -/
theorem placementSettled : Obligations.PlacementSettled := by
  refine ⟨fun s ref hc hst => ?_, fun s h => exec_trayEntry.trans (if_neg (by simp [h])),
    fun s h => exec_placeWatchExpiry.trans (if_neg (by simp [h]))⟩
  obtain ⟨x, hx, hxs⟩ := Option.map_eq_some_iff.mp hst
  refine ⟨fun b slot run h hfit hstate ha hlo hhi hr => ?run, fun ha => ?tray, fun b first count h hw ha hr => ?runLost,
    fun hw ha => ?trayLost⟩
  case run =>
    have haccepted : (s.bayRec b).state.accepted = true := by rcases hstate with hb | hb | hb <;> rw [hb] <;> rfl
    exact ⟨_, exec_next (exec_slotSeated.trans (if_pos ⟨haccepted, hfit⟩)) (slotSeen_awaited ha hlo hhi),
      confirmRun_placed (s := beginStep s) (finishStep_headView _) hc hx hxs hr⟩
  case tray =>
    exact ⟨_, exec_trayEntry.trans (if_pos ha), confirmTray_rejected (s := beginStep s) (finishStep_headView _) hc hx hxs⟩
  case runLost =>
    exact ⟨_, exec_placeWatchExpiry.trans (if_pos hw),
      losePlacement_run (s := beginStep s) (finishStep_headView _) hc hx hxs ha hr⟩
  case trayLost =>
    exact ⟨_, exec_placeWatchExpiry.trans (if_pos hw),
      losePlacement_tray (s := beginStep s) (finishStep_headView _) hc hx hxs ha⟩

end Sys2Proof.Machine
end

section
/-! SUPPORT. The claim table's answer for a board (R148 to R151), and what an answer makes of the records (R152, R154). -/

namespace Sys2Proof.Machine

variable {s u : State} {hc code : Nat} {e : ClaimEntry} {o : Offer}

/-! ## Offers (R150) -/

/-- R164, R165: a place offered for one slot or more starts at a FREE slot of the bay's map. -/
theorem tryEntry_free (h : tryEntry hc s e = .ok o) (hn : 1 ≤ o.count) : o.first < (s.bayRec o.bay).map.length := by
  unfold tryEntry at h
  dsimp only at h
  (repeat' split at h) <;> cases h
  rename_i hfind
  have hrun := List.find?_some hfind
  simp only [Bool.and_eq_true, runFree, List.all_eq_true, List.mem_range] at hrun
  have hfree := hrun.2 0 hn
  unfold slotFree at hfree
  split at hfree
  · rename_i hget
    exact (List.getElem?_eq_some_iff.mp hget).1
  · cases hfree

/-- The first entry tried that offers a place wins. -/
theorem firstOffer_of_first {p : ClaimEntry → Bool} : ∀ {l : List ClaimEntry} {i : Nat} (hi : i < l.length), p l[i] = true →
    tryEntry hc s l[i] = .ok o →
    (∀ k (hk : k < i), p l[k] = true → ∀ q, tryEntry hc s l[k] ≠ .ok q) → firstOffer hc s (l.filter p) = some o
  | [], i, hi, _, _, _ => absurd hi (Nat.not_lt_zero i)
  | x :: l, 0, _, hp, ho, _ => by
    simp only [List.getElem_cons_zero] at hp ho
    rw [List.filter_cons_of_pos hp, firstOffer, ho]
  | x :: l, i + 1, hi, hp, ho, hmin => by
    have hrest := firstOffer_of_first (l := l) (Nat.lt_of_succ_lt_succ hi) hp ho fun k hk => hmin (k + 1) (by omega)
    by_cases hx : p x = true
    · rw [List.filter_cons_of_pos hx, firstOffer]
      split
      · rename_i q hq
        exact absurd hq (hmin 0 (by omega) hx q)
      · exact hrest
    · rwa [List.filter_cons_of_neg hx]

/-- With no entry tried that offers a place, there is none. -/
theorem firstOffer_none {l : List ClaimEntry} (h : ∀ e ∈ l, ∀ q, tryEntry hc s e ≠ .ok q) : firstOffer hc s l = none := by
  induction l with
  | nil => rfl
  | cons x l ih =>
    unfold firstOffer
    split
    · rename_i q hq
      exact absurd hq (h x (by simp) q)
    · exact ih fun e he => h e (by simp [he])

theorem lacksRun_iff : lacksRun hc s e = true ↔ tryEntry hc s e = .error .noFreeRun := by
  unfold lacksRun
  split
  · rename_i h; simp [h]
  · rename_i h; simpa using h

/-! ## The two passes (R150, R151) -/

/-- R150: the entry is tried in the direct pass. -/
def ClaimEntry.NamesCode (code : Nat) (e : ClaimEntry) : Prop := e.enabled = true ∧ e.low = code

/-- R150: the entry is tried in the ranged pass. -/
def ClaimEntry.HoldsCode (code : Nat) (e : ClaimEntry) : Prop :=
  e.enabled = true ∧ e.exactOnly = false ∧ e.low ≤ code ∧ code ≤ e.high

theorem direct_iff : e.direct code = true ↔ e.NamesCode code := by simp [ClaimEntry.direct, ClaimEntry.NamesCode]

theorem ranged_iff : e.ranged code = true ↔ e.HoldsCode code := by
  simp [ClaimEntry.ranged, ClaimEntry.HoldsCode, and_assoc]

/-- The entry is the lowest of those tried that offers a place, and offers this one. -/
def State.lowestOffer (s : State) (hc : Nat) (tried : ClaimEntry → Prop) (o : Offer) : Prop :=
  ∃ i : Fin 8, tried s.route.claims[i] ∧ tryEntry hc s s.route.claims[i] = .ok o ∧
    ∀ k : Fin 8, k < i → tried s.route.claims[k] → ∀ q, ¬ tryEntry hc s s.route.claims[k] = .ok q

/-- None of the entries tried offers a place. -/
def State.noOffer (s : State) (hc : Nat) (tried : ClaimEntry → Prop) : Prop :=
  ∀ i : Fin 8, tried s.route.claims[i] → ∀ q, ¬ tryEntry hc s s.route.claims[i] = .ok q

/-- The lowest entry of the table that is tried and offers a place is the first of those tried to offer one. -/
theorem firstOffer_lowest {tried : ClaimEntry → Prop} {p : ClaimEntry → Bool} (hp : ∀ e, p e = true ↔ tried e)
    (h : s.lowestOffer hc tried o) : firstOffer hc s (s.route.claims.toList.filter p) = some o := by
  obtain ⟨i, hi, ho, hmin⟩ := h
  refine firstOffer_of_first (i := i) (by simp) ((hp _).mpr (by simpa using hi)) (by simpa using ho) fun k hk hpk q hq => ?_
  have hk8 : k < 8 := by omega
  exact hmin ⟨k, hk8⟩ hk (by simpa using (hp _).mp hpk) q (by simpa using hq)

theorem firstOffer_table_none {tried : ClaimEntry → Prop} {p : ClaimEntry → Bool} (hp : ∀ e, p e = true ↔ tried e)
    (h : s.noOffer hc tried) : firstOffer hc s (s.route.claims.toList.filter p) = none := by
  refine firstOffer_none fun e he q hq => ?_
  obtain ⟨hmem, hpe⟩ := List.mem_filter.mp he
  obtain ⟨i, hi, rfl⟩ := List.getElem_of_mem hmem
  have hi8 : i < 8 := by simpa using hi
  exact h ⟨i, hi8⟩ (by simpa using (hp _).mp hpe) q (by simpa using hq)

/-- R151: some entry is tried for the code, and every one that is lacks a free run. -/
def State.zonesFull (s : State) (code hc : Nat) : Prop :=
  let tried := fun i : Fin 8 => s.route.claims[i].NamesCode code ∨ s.route.claims[i].HoldsCode code
  (∃ i, tried i) ∧ ∀ i, tried i → tryEntry hc s s.route.claims[i] = .error .noFreeRun

theorem zonesFull_iff :
    (let matching := s.route.claims.toList.filter fun e => e.direct code || e.ranged code
     !matching.isEmpty && matching.all (lacksRun hc s)) = true ↔ s.zonesFull code hc := by
  have hplace : ∀ e, e ∈ s.route.claims.toList ↔ ∃ i : Fin 8, s.route.claims[i] = e := fun e => by
    rw [Vector.mem_toList_iff, Vector.mem_iff_getElem]
    exact ⟨fun ⟨i, hi, h⟩ => ⟨⟨i, hi⟩, h⟩, fun ⟨i, h⟩ => ⟨i, i.isLt, h⟩⟩
  simp only [Bool.and_eq_true, Bool.not_eq_true', List.isEmpty_eq_false_iff_exists_mem, List.all_eq_true, List.mem_filter,
    Bool.or_eq_true, direct_iff, ranged_iff, hplace, lacksRun_iff]
  constructor
  · rintro ⟨⟨e, ⟨i, rfl⟩, hn⟩, hall⟩
    exact ⟨⟨i, hn⟩, fun k hk => hall _ ⟨⟨k, rfl⟩, hk⟩⟩
  · rintro ⟨⟨i, hn⟩, hall⟩
    refine ⟨⟨_, ⟨i, rfl⟩, hn⟩, ?_⟩
    rintro _ ⟨⟨k, rfl⟩, hk⟩
    exact hall k hk

theorem claimAnswer_direct (h : s.lowestOffer hc (·.NamesCode code) o) : claimAnswer code hc s = .run o false := by
  simp only [claimAnswer, firstOffer_lowest (fun _ => direct_iff) h]

theorem claimAnswer_ranged (hd : s.noOffer hc (·.NamesCode code)) (h : s.lowestOffer hc (·.HoldsCode code) o) :
    claimAnswer code hc s = .run o true := by
  simp only [claimAnswer, firstOffer_table_none (fun _ => direct_iff) hd, firstOffer_lowest (fun _ => ranged_iff) h]

/-- R151: the answer when neither pass finds a place. -/
theorem claimAnswer_none (hd : s.noOffer hc (·.NamesCode code)) (hr : s.noOffer hc (·.HoldsCode code)) :
    (s.zonesFull code hc → claimAnswer code hc s = .wait .zoneFull false) ∧
      (¬ s.zonesFull code hc → claimAnswer code hc s =
        if s.mode.options.tray && s.route.trayPolicy then trayAnswer s else .wait .unclaimed false) := by
  simp only [claimAnswer, firstOffer_table_none (fun _ => direct_iff) hd, firstOffer_table_none (fun _ => ranged_iff) hr]
  exact ⟨fun h => if_pos (zonesFull_iff.mpr h), fun h => if_neg fun hc => h (zonesFull_iff.mp hc)⟩

/-! ## What an answer depends on -/

theorem trayAnswer_congr (hm : u.mode = s.mode) (hr : u.route = s.route) : trayAnswer u = trayAnswer s := by
  unfold trayAnswer
  rw [hm, hr]

theorem tryEntry_congr (hm : u.mode = s.mode) (hb : u.bay = s.bay) : tryEntry hc u = tryEntry hc s := by
  funext e
  unfold tryEntry State.bayEnabled State.bayFitted State.bayRec
  rw [hm, hb]

theorem claimAnswer_congr (hm : u.mode = s.mode) (hr : u.route = s.route) (hb : u.bay = s.bay) :
    claimAnswer code hc u = claimAnswer code hc s := by
  have hfirst : ∀ l, firstOffer hc u l = firstOffer hc s l := fun l => by
    induction l with
    | nil => rfl
    | cons e l ih => simp only [firstOffer, tryEntry_congr hm hb, ih]
  have hlacks : lacksRun hc u = lacksRun hc s := by
    funext e
    simp only [lacksRun, tryEntry_congr hm hb]
  simp only [claimAnswer, hr, hm, hfirst, hlacks, trayAnswer_congr hm hr]

/-! ## The tray (R149) -/

theorem trayAnswer_room (ht : s.mode.options.tray = true) (hc : s.route.trayCount < 40) : trayAnswer s = .tray := by
  simp [trayAnswer, ht, Config.trayLimit, hc]

theorem trayAnswer_full (ht : s.mode.options.tray = true) (hc : 40 ≤ s.route.trayCount) :
    trayAnswer s = .wait .trayFull true := by
  simp [trayAnswer, ht, Config.trayLimit, Nat.not_lt.mpr hc]

theorem trayAnswer_unused (ht : s.mode.options.tray = false) : trayAnswer s = .wait .unclaimed true := by
  simp [trayAnswer, ht]

/-! ## The answer applied (R152, R154) -/

variable {ref : BoardRef} {x : BoardRec}

/-- What an answer keeps of the head: its record, what its motions turn on, and what the step has sent. -/
structure KeepsHead (s u : State) : Prop where
  pick : u.pick = s.pick
  mode : u.mode = s.mode
  request : u.drive.pick = s.drive.pick
  sent : u.out.sent = s.out.sent
  withdrawing : u.withdrawing = s.withdrawing

/-- R174, R175: an auto-swap asked of a bay that holds a RESERVED run opens no latch. -/
theorem autoSwapTest_sent {b : Bay} (h : anyReserved (s.bayRec b).map = true) : (autoSwapTest b s).out.sent = s.out.sent := by
  unfold autoSwapTest askSwap
  split
  · rw [bayReport, queueReport_sent, if_pos (by rw [updBayRec_bayRec]; exact h)]
    rfl
  · rfl

theorem anyReserved_of_getElem? {slots : List Slot} {i : Nat} {r : SlotRef}
    (h : slots[i]? = some { state := .reserved, ref := r }) : anyReserved slots = true :=
  List.any_eq_true.mpr ⟨_, List.mem_of_getElem? h, rfl⟩

/-- R166: the run is RESERVED, and nothing is sent for it. -/
theorem reserveRun_seen {b : Bay} {first : Nat} (run : RunHead) (hlt : first < (s.bayRec b).map.length) :
    KeepsHead s (reserveRun b first run s) ∧ (reserveRun b first run s).board? = s.board? ∧
      ((reserveRun b first run s).bayRec b).map[first]? = some { state := .reserved, ref := .head run } := by
  have hview : (reserveRun b first run s).headView = (mapSlots b (setRun .reserved first run) s).headView :=
    autoSwapTest_headView _ b
  have hmap : ((mapSlots b (setRun .reserved first run) s).bayRec b).map[first]? =
      some { state := .reserved, ref := .head run } := by
    rw [mapSlots_map hlt]
    exact setRun_getElem? .reserved run hlt
  refine ⟨⟨congrArg HeadView.pick hview, congrArg HeadView.mode hview, congrArg HeadView.request hview,
    autoSwapTest_sent (anyReserved_of_getElem? hmap), congrArg HeadView.withdrawing hview⟩,
    congrArg HeadView.board? hview, ?_⟩
  rw [← hmap]
  exact congrArg (fun v => ((HeadView.runs v b).1.getD [])[first]?) hview

/-- A board after a change of it that keeps its index. -/
theorem updBoard_board?_of {tag i : Nat} {f : BoardRec → BoardRec} (hb : s.board? tag i = some x)
    (hf : ∀ b, (f b).index = b.index) : (s.updBoard tag i f).board? tag i = some (f x) := by
  rw [updBoard_board?_self s tag i f hf, hb, Option.map_some]

/-- What a board and its run are written into does not move the head. -/
theorem KeepsHead.then_written {v : State} (h : KeepsHead s v) (tag i : Nat) (f : BoardRec → BoardRec)
    (g : RouteRec → RouteRec) : KeepsHead s ((v.updBoard tag i f).updRoute g) :=
  ⟨h.pick, h.mode, h.request, h.sent, (updBoard_withdrawing v tag i f).trans h.withdrawing⟩

/-- R152: a run. -/
theorem applyAnswer_run (ranged : Bool) (hb : s.board? ref.job ref.board = some x)
    (hlt : o.first < (s.bayRec o.bay).map.length) :
    let u := applyAnswer ref (.run o ranged) s
    KeepsHead s u ∧ u.board? ref.job ref.board = some { x with dest := .run o.bay o.first o.count, ranged := ranged } ∧
      (u.bayRec o.bay).map[o.first]? =
        some
          { state := .reserved
            ref := .head
              { job := ref.job, board := ref.board, product := s.product ref.job ref.board, ranged := ranged
                count := o.count, cause := none } } := by
  obtain ⟨hkeeps, hboard, hmap⟩ := reserveRun_seen
    { job := ref.job, board := ref.board, product := s.product ref.job ref.board, ranged := ranged, count := o.count
      cause := none } hlt
  dsimp only [applyAnswer]
  refine ⟨hkeeps.then_written _ _ _ _, ?_, hmap⟩
  exact updBoard_board?_of ((congrFun (congrFun hboard _) _).trans hb) fun _ => rfl

/-- R152: the tray. -/
theorem applyAnswer_tray (hb : s.board? ref.job ref.board = some x) :
    let u := applyAnswer ref .tray s
    KeepsHead s u ∧ u.board? ref.job ref.board = some { x with dest := .tray, ranged := false } ∧
      u.route = { s.route with wait := none, trayInProgress := true } := by
  dsimp only [applyAnswer]
  have hkeeps : KeepsHead s (s.updRoute fun r => { r with trayInProgress := true }) := ⟨rfl, rfl, rfl, rfl, rfl⟩
  exact ⟨hkeeps.then_written _ _ _ _, updBoard_board?_of (s := s.updRoute _) hb fun _ => rfl, rfl⟩

/-- R154: a wait of a board that none waited before raises its outcome's flag. -/
theorem applyAnswer_wait (outcome : WaitOutcome) (bound : Bool) (hw : s.route.wait = none) :
    let u := applyAnswer ref (.wait outcome bound) s
    KeepsHead s u ∧ u.board? = s.board? ∧ u.link.flags = (s.flagged outcome.flag).link.flags ∧
      u.route =
        { s.route with
          wait := some
            { ref := ref, product := s.product ref.job ref.board, outcome := outcome, trayBound := bound } } := by
  have happly : applyAnswer ref (.wait outcome bound) s = raiseFlag outcome.flag (s.updRoute fun r =>
      { r with
        wait := some
          { ref := ref, product := s.product ref.job ref.board, outcome := outcome, trayBound := bound } }) := by
    simp [applyAnswer, hw]
  dsimp only
  rw [happly]
  refine ⟨⟨raiseFlag_pick _ _, raiseFlag_mode _ _, congrArg PerGroup.pick (raiseFlag_drive _), raiseFlag_sent _ _,
    congrArg HeadView.withdrawing (raiseFlag_headView _ _)⟩, raiseFlag_board? _ _, raiseFlag_flags _ _, raiseFlag_route _ _⟩

end Sys2Proof.Machine
end

section
/-! A board severed on its held tab (R134, R135): the pass counted, the board taken off the hold list and onto the head, and the
answer of the claim table carried out. -/

namespace Sys2Proof.Machine

variable {s S u : State} {r : PassRec} {b x : BoardRec} {recipe : Recipe} {ref : BoardRef} {a : Answer}
  {o : Offer}

/-- The board of a pass. -/
def PassRec.boardRef (r : PassRec) : BoardRef := { job := r.job, board := r.board }

/-! ## The motion of an answer (R135) -/

/-- R135: a destination is answered with a TRANSFER, a wait with a PARK WAIT. -/
def Answer.motion : Answer → MotionKind
  | .wait _ _ => .parkWait
  | _ => .transfer

theorem routeBoard_eq (ha : resolve ref (s.updPick fun p => { p with head := .transfer }) = a) :
    routeBoard ref s = startMotion a.motion (applyAnswer ref a (s.updPick fun p => { p with head := .transfer })) := by
  simp only [routeBoard, ha]
  cases a <;> rfl

/-- R129: in PAUSED the motion of an answer is requested. -/
theorem startMotion_paused (a : Answer) (h : s.mode.mode = .paused) :
    (startMotion a.motion s).headView =
        { s.headView with
          pick := { s.pick with motion := .inFlight a.motion s.drive.pick }, request := s.drive.pick + 1 } ∧
      (startMotion a.motion s).out.sent = s.out.sent ++ [.request .pick s.drive.pick (motionRequest a.motion s)] := by
  rw [startMotion_sent (by rw [h]; cases a <;> rfl)]
  exact ⟨rfl, rfl⟩

/-! ## The state in which the board is resolved -/

/-- What a destination depends on, and what a step is seen to have sent, is the same in both states. -/
structure SameTargets (s u : State) : Prop where
  bay : u.bay = s.bay
  route : u.route = s.route
  mode : u.mode = s.mode
  request : u.drive.pick = s.drive.pick
  flags : u.link.flags = s.link.flags
  sent : u.out.sent = s.out.sent
  product : u.product = s.product
  recipe : u.jobRecipe? = s.jobRecipe?
  withdrawing : u.withdrawing = s.withdrawing

section
variable (h : SameTargets s u)
include h

theorem SameTargets.updSeq (f : SeqRec → SeqRec) : SameTargets s (u.updSeq f) :=
  ⟨h.bay, h.route, h.mode, h.request, h.flags, h.sent, h.product, h.recipe, h.withdrawing⟩

theorem SameTargets.updPick (f : PickRec → PickRec) : SameTargets s (u.updPick f) :=
  ⟨h.bay, h.route, h.mode, h.request, h.flags, h.sent, h.product, h.recipe, h.withdrawing⟩

theorem SameTargets.leaveHoldList (tag i : Nat) : SameTargets s (leaveHoldList tag i u) :=
  ⟨h.bay, h.route, h.mode, h.request, h.flags, h.sent, h.product, h.recipe, h.withdrawing⟩

theorem SameTargets.updBoard (tag i : Nat) (f : BoardRec → BoardRec) : SameTargets s (u.updBoard tag i f) :=
  ⟨h.bay, h.route, h.mode, h.request, h.flags, h.sent, (updBoard_product u tag i f).trans h.product,
    (updBoard_jobRecipe? u tag i f).trans h.recipe, (updBoard_withdrawing u tag i f).trans h.withdrawing⟩

theorem SameTargets.queueReport (rep : Report) : SameTargets s (queueReport rep u) where
  bay := (queueReport_bay u rep).trans h.bay
  route := (queueReport_route u rep).trans h.route
  mode := (queueReport_mode u rep).trans h.mode
  request := (congrArg PerGroup.pick (queueReport_drive u rep)).trans h.request
  flags := (queueReport_flags u rep).trans h.flags
  sent := (queueReport_sent u rep).trans h.sent
  product := (funext fun _ => funext fun _ => queueReport_product u rep _ _).trans h.product
  recipe := (funext fun _ => queueReport_jobRecipe? u rep _).trans h.recipe
  withdrawing := (funext fun _ => queueReport_withdrawing u rep _).trans h.withdrawing

end

theorem SameTargets.refl (s : State) : SameTargets s s := ⟨rfl, rfl, rfl, rfl, rfl, rfl, rfl, rfl, rfl⟩

/-- R134: within the step the board `b`, SINGLED, is on the head, and what its destination depends on is as the step found it. -/
structure OnHead (s : State) (ref : BoardRef) (b : BoardRec) (S : State) : Prop where
  same : SameTargets (beginStep s) S
  carried : S.pick.carried = some ref
  served : S.pick.served = none
  head : S.pick.head = .transfer
  board : ∃ x, S.board? ref.job ref.board = some x ∧ x.state = .singled ∧ x.damage = b.damage ∧ x.xout = b.xout ∧
    x.dest = b.dest

/-- R148: the resolution of a board. -/
def State.answer (s : State) (ref : BoardRef) (b : BoardRec) (hc : Nat) : Answer :=
  if b.damage || b.xout then trayAnswer s else claimAnswer (s.product ref.job ref.board) hc s

theorem OnHead.resolve (h : OnHead s ref b S) (hr : s.jobRecipe? ref.job = some recipe) :
    resolve ref S = s.answer ref b recipe.hc := by
  obtain ⟨x, hx, -, hdamage, hxout, -⟩ := h.board
  unfold Machine.resolve State.answer
  rw [show S.product = s.product from h.same.product, show S.jobRecipe? = s.jobRecipe? from h.same.recipe, hx, hr,
    trayAnswer_congr (s := s) h.same.mode h.same.route, claimAnswer_congr (s := s) h.same.mode h.same.route h.same.bay]
  simp only [Option.map_some, Option.getD_some, hdamage, hxout]

/-- R134: the pass is over, its report queued, and its tab as it leaves it. -/
def State.counted (r : PassRec) (rep : Report) (after : TabRec) (s : State) : State :=
  (queueReport rep (s.updSeq fun q => { q with pass := none })).updTab r.job r.board r.ring fun _ => after

/-- R134: the board is lifted off its panel. -/
def State.lifted (ref : BoardRef) (s : State) : State :=
  (leaveHoldList ref.job ref.board (boardEvent ref.job ref.board .severedHeld
    (s.updPick fun p => { p with heldPass := false, holdLost := false }))).updPick fun p =>
      { p with carried := some ref, served := none }

theorem heldOutcome_lifts (h : s.pick.holdLost = false) : heldOutcome ref .severed s = routeBoard ref (s.lifted ref) := by
  simp [heldOutcome, h, State.lifted]

/-- R134: a HELD board is SINGLED as it is lifted. -/
theorem lifted_held (hst : s.boardState ref.job ref.board = some .held) :
    s.lifted ref =
      (leaveHoldList ref.job ref.board ((s.updPick fun p => { p with heldPass := false, holdLost := false }).updBoard
        ref.job ref.board fun b => { b with state := .singled })).updPick fun p =>
          { p with carried := some ref, served := none } := by
  unfold State.lifted
  rw [boardEvent_moves (s := s.updPick _) hst rfl rfl]

theorem counted_board? (rep : Report) (after : TabRec) (hb : s.board? r.job r.board = some b) :
    (s.counted r rep after).board? r.job r.board = some { b with tabs := b.tabs.modify r.ring fun _ => after } := by
  unfold State.counted
  rw [updTab_board?_self, queueReport_board?]
  exact congrArg (Option.map _) hb

theorem counted_same (rep : Report) (after : TabRec) : SameTargets s (s.counted r rep after) :=
  (((SameTargets.refl s).updSeq _).queueReport rep).updBoard r.job r.board _

/-- R134, R135: the counted pass, the board lifted and the head about to move. -/
theorem counted_lifted_onHead (rep : Report) (after : TabRec) (hb : s.board? r.job r.board = some b) (hst : b.state = .held) :
    OnHead s r.boardRef b
      ((((beginStep s).counted r rep after).lifted r.boardRef).updPick fun p => { p with head := .transfer }) := by
  have hcounted := counted_board? (s := beginStep s) rep after hb
  have hheld : ((beginStep s).counted r rep after).boardState r.job r.board = some .held := by
    rw [State.boardState, hcounted, Option.map_some, hst]
  rw [lifted_held (ref := r.boardRef) hheld]
  refine ⟨?_, rfl, rfl, rfl, _, updBoard_board?_of (s := State.updPick _ _) hcounted fun _ => rfl, rfl, rfl, rfl, rfl⟩
  exact (((((counted_same rep after).updPick _).updBoard r.job r.board _).leaveHoldList r.job r.board).updPick _).updPick _

/-! ## The step -/

/-- R76: outside RUN a choice point changes the sequencer's record only. -/
theorem chooseNext_outsideRun (h : s.mode.mode ≠ .run) :
    (chooseNext s).headView = s.headView ∧ (chooseNext s).out.sent = s.out.sent := by
  unfold chooseNext
  rw [if_neg h]
  split
  · exact ⟨rfl, rfl⟩
  · exact ⟨rfl, rfl⟩

/-- R71: the last tab of a board that is CUTTING no more does not bring it to the hold list. -/
theorem holdEntry_other {tag i : Nat} (h : s.boardState tag i ≠ some .cutting) : holdEntry tag i s = s :=
  if_neg fun hc => h hc.2.2.1

/-- R71, R109: outside RUN the pass in flight is on the held tab of a HELD board, and its job is not withdrawn. -/
structure HeldPass (s : State) (r : PassRec) (b : BoardRec) (recipe : Recipe) : Prop where
  pass : s.seq.pass = some r
  inPass : s.seq.state = .pass
  held : r.held = true
  mode : s.mode.mode ≠ .run
  staying : s.withdrawing r.job = false
  board : s.board? r.job r.board = some b
  boardHeld : b.state = .held
  tab : ∃ t, s.tab? r.job r.board r.ring = some t
  recipe : s.jobRecipe? r.job = some recipe

/-- R103, R134: a CLEAN pass on a held tab ends as its outcome for the head leaves the state. -/
theorem HeldPass.exec_clean (h : HeldPass s r b recipe) :
    ∃ rep after, ∀ v, heldOutcome r.boardRef .severed ((beginStep s).counted r rep after) = v →
      v.mode = s.mode → v.withdrawing = s.withdrawing → v.boardState r.job r.board ≠ some .cutting →
      ∃ u, exec (.passCompletion r.req .clean false) s = .next u ∧ u.headView = v.headView ∧ u.out.sent = v.out.sent := by
  obtain ⟨t, ht⟩ := h.tab
  refine ⟨.tabDone (tabReportOf r .clean false none .severed (countPass .clean .severed t) (b.damage || false)),
    countPass .clean .severed t, fun v hv hmode hw hst => ?_⟩
  have hx : exec (.passCompletion r.req .clean false) s = applied (completePass r .clean false) s := by
    show execPassCompletion r.req .clean false s = _
    simp only [execPassCompletion, h.pass, h.inPass, and_self, if_true]
  have hverify : verifyPass r .clean false ((beginStep s).updSeq fun q => { q with pass := none }) = toolOutcome .clean v := by
    have htab : ((beginStep s).updSeq fun q => { q with pass := none }).tab? r.job r.board r.ring = some t := ht
    have hboard : ((beginStep s).updSeq fun q => { q with pass := none }).board? r.job r.board = some b := h.board
    have hrecipe : ((beginStep s).updSeq fun q => { q with pass := none }).jobRecipe? r.job = some recipe := h.recipe
    rw [← hv]
    simp only [verifyPass, htab, hboard, hrecipe, boardConsequence, decideTab, h.held, if_true]
    rfl
  have hcomplete : completePass r .clean false (beginStep s) = chooseNext (toolOutcome .clean v) := by
    have hstays : (toolOutcome .clean v).withdrawing r.job = false := (congrFun hw r.job).trans h.staying
    unfold completePass
    dsimp only
    rw [hverify, hstays, holdEntry_other (s := toolOutcome .clean v) hst]
    rfl
  obtain ⟨hview, hsent⟩ := chooseNext_outsideRun (s := toolOutcome .clean v) (by
    show v.mode.mode ≠ .run
    rw [hmode]
    exact h.mode)
  refine ⟨_, exec_next hx hcomplete, (finishStep_headView _).trans hview, ?_⟩
  rw [finishStep_out]
  exact hsent

/-- R135: an answer that leaves the head and its board as they are is carried out with its motion. -/
theorem HeldPass.routed (h : HeldPass s r b recipe) (hm : s.mode.mode = .paused) (hl : s.pick.holdLost = false)
    (ha : s.answer r.boardRef b recipe.hc = a)
    (happly : ∀ S, OnHead s r.boardRef b S → KeepsHead S (applyAnswer r.boardRef a S) ∧
      ∃ y, (applyAnswer r.boardRef a S).board? r.job r.board = some y ∧ y.state = .singled) :
    ∃ u S, OnHead s r.boardRef b S ∧ exec (.passCompletion r.req .clean false) s = .next u ∧
      (u.pick.carried = some r.boardRef ∧ u.pick.served = none ∧ u.pick.head = .transfer ∧
        u.pick.motion = .inFlight a.motion s.drive.pick) ∧
      u.out.sent = [.request .pick s.drive.pick (motionRequest a.motion (applyAnswer r.boardRef a S))] ∧
      u.route = (applyAnswer r.boardRef a S).route ∧ u.link.flags = (applyAnswer r.boardRef a S).link.flags ∧
      u.board? = (applyAnswer r.boardRef a S).board? ∧
      ∀ b, (u.bayRec b).map = ((applyAnswer r.boardRef a S).bayRec b).map := by
  obtain ⟨rep, after, hclean⟩ := h.exec_clean
  have honHead := counted_lifted_onHead rep after h.board h.boardHeld
  have hlifts := heldOutcome_lifts (ref := r.boardRef) (s := (beginStep s).counted r rep after) (by
    show (queueReport rep _).pick.holdLost = false
    rw [queueReport_pick]
    exact hl)
  obtain ⟨hkeeps, y, hy, hys⟩ := happly _ honHead
  have hmode := hkeeps.mode.trans honHead.same.mode
  have hrequest := hkeeps.request.trans honHead.same.request
  have hsent := hkeeps.sent.trans honHead.same.sent
  have hcarried := routeBoard_eq ((honHead.resolve h.recipe).trans ha)
  obtain ⟨hmoved, hmovedSent⟩ := startMotion_paused a ((congrArg ModeRec.mode hmode).trans hm)
  obtain ⟨u, hu, hview, husent⟩ := hclean _ (hlifts.trans hcarried) ((congrArg HeadView.mode hmoved).trans hmode)
    ((congrArg HeadView.withdrawing hmoved).trans (hkeeps.withdrawing.trans honHead.same.withdrawing)) (by
      rw [State.boardState, startMotion_board?, hy, Option.map_some, hys]
      simp)
  have hseen := hview.trans hmoved
  have hpick : u.pick = _ := congrArg HeadView.pick hseen
  refine ⟨u, _, honHead, hu, ?_, (husent.trans hmovedSent).trans ?_, congrArg HeadView.route hseen,
    congrArg HeadView.flags hseen, congrArg HeadView.board? hseen, fun b => congrArg (fun v => (v.runs b).1.getD []) hseen⟩
  · rw [hpick, hkeeps.pick, hrequest]
    exact ⟨honHead.carried, honHead.served, honHead.head, rfl⟩
  · rw [hsent, hrequest]
    rfl

/-! ## The three answers (R135, R152, R154) -/

/-- R135: a TRANSFER carries the destination of the board on the head. -/
theorem motionRequest_transfer (hc : s.pick.carried = some ref) (hb : s.board? ref.job ref.board = some x) :
    motionRequest .transfer s = .transfer x.dest := by
  simp [motionRequest, carriedDest, hc, hb]

section
variable (h : HeldPass s r b recipe) (hm : s.mode.mode = .paused) (hl : s.pick.holdLost = false)
include h hm hl

/-- R152: an answer that gives the board a run, which is RESERVED for it. -/
theorem HeldPass.toRun {ranged : Bool} (ha : s.answer r.boardRef b recipe.hc = .run o ranged)
    (hlt : o.first < (s.bayRec o.bay).map.length) :
    ∃ u x, exec (.passCompletion r.req .clean false) s = .next u ∧ u.board? r.job r.board = some x ∧ x.state = .singled ∧
      u.pick.carried = some r.boardRef ∧ u.pick.served = none ∧ u.pick.head = .transfer ∧
      (x.dest = .run o.bay o.first o.count ∧ u.pick.motion = .inFlight .transfer s.drive.pick ∧
        u.out.sent = [.request .pick s.drive.pick (.transfer (.run o.bay o.first o.count))]) ∧
      x.ranged = ranged ∧
      (u.bayRec o.bay).map[o.first]? =
        some
          { state := .reserved
            ref := .head
              { job := r.job, board := r.board, product := s.product r.job r.board, ranged := ranged, count := o.count
                cause := none } } := by
  have hroom : ∀ {S}, OnHead s r.boardRef b S → o.first < (S.bayRec o.bay).map.length := fun honHead => by
    rw [State.bayRec, honHead.same.bay]
    exact hlt
  obtain ⟨u, S, honHead, hu, ⟨hpickCarried, hserved, hhead, hmotion⟩, hsent, -, -, hboard, hruns⟩ :=
    h.routed hm hl ha fun S honHead => by
      obtain ⟨x, hx, hxs, -⟩ := honHead.board
      obtain ⟨hkeeps, hy, -⟩ := applyAnswer_run ranged hx (hroom honHead)
      exact ⟨hkeeps, _, hy, hxs⟩
  obtain ⟨x, hx, hxs, -⟩ := honHead.board
  obtain ⟨hkeeps, hy, hrun⟩ := applyAnswer_run ranged hx (hroom honHead)
  have hcarried := (congrArg PickRec.carried hkeeps.pick).trans honHead.carried
  refine ⟨u, _, hu, (congrFun (congrFun hboard _) _).trans hy, hxs, hpickCarried, hserved, hhead,
    ⟨rfl, hmotion, ?_⟩, rfl, ?_⟩
  · rw [hsent, show Answer.motion (.run o ranged) = .transfer from rfl, motionRequest_transfer hcarried hy]
  · rw [hruns, hrun, show S.product = s.product from honHead.same.product]
    rfl

/-- R152: an answer that sends the board to the tray. -/
theorem HeldPass.toTray (ha : s.answer r.boardRef b recipe.hc = .tray) :
    ∃ u x, exec (.passCompletion r.req .clean false) s = .next u ∧ u.board? r.job r.board = some x ∧ x.state = .singled ∧
      u.pick.carried = some r.boardRef ∧ u.pick.served = none ∧ u.pick.head = .transfer ∧
      (x.dest = .tray ∧ u.pick.motion = .inFlight .transfer s.drive.pick ∧
        u.out.sent = [.request .pick s.drive.pick (.transfer .tray)]) ∧
      x.ranged = false ∧ u.route = { s.route with wait := none, trayInProgress := true } := by
  obtain ⟨u, S, honHead, hu, ⟨hpickCarried, hserved, hhead, hmotion⟩, hsent, hroute, -, hboard, -⟩ :=
    h.routed hm hl ha fun S honHead => by
      obtain ⟨x, hx, hxs, -⟩ := honHead.board
      obtain ⟨hkeeps, hy, -⟩ := applyAnswer_tray hx
      exact ⟨hkeeps, _, hy, hxs⟩
  obtain ⟨x, hx, hxs, -⟩ := honHead.board
  obtain ⟨hkeeps, hy, htray⟩ := applyAnswer_tray hx
  have hcarried := (congrArg PickRec.carried hkeeps.pick).trans honHead.carried
  refine ⟨u, _, hu, (congrFun (congrFun hboard _) _).trans hy, hxs, hpickCarried, hserved, hhead,
    ⟨rfl, hmotion, ?_⟩, rfl, ?_⟩
  · rw [hsent, show Answer.motion .tray = .transfer from rfl, motionRequest_transfer hcarried hy]
  · rw [hroute, htray, show S.route = s.route from honHead.same.route]

/-- R154: an answer that holds the board on the head, where none waited before. -/
theorem HeldPass.waits (hw : s.route.wait = none) {outcome : WaitOutcome} {bound : Bool}
    (ha : s.answer r.boardRef b recipe.hc = .wait outcome bound) :
    ∃ u x, exec (.passCompletion r.req .clean false) s = .next u ∧ u.board? r.job r.board = some x ∧ x.state = .singled ∧
      u.pick.carried = some r.boardRef ∧ u.pick.served = none ∧ u.pick.head = .transfer ∧
      x.dest = b.dest ∧ u.pick.motion = .inFlight .parkWait s.drive.pick ∧
      u.out.sent = [.request .pick s.drive.pick .parkWait] ∧ u.link.flags = (s.flagged outcome.flag).link.flags ∧
      u.route =
        { s.route with
          wait := some
            { ref := r.boardRef, product := s.product r.job r.board, outcome := outcome, trayBound := bound } } := by
  have hnone : ∀ {S}, OnHead s r.boardRef b S → S.route.wait = none := fun honHead => by
    rw [honHead.same.route]
    exact hw
  obtain ⟨u, S, honHead, hu, ⟨hpickCarried, hserved, hhead, hmotion⟩, hsent, hroute, hflags, hboard, -⟩ :=
    h.routed hm hl ha fun S honHead => by
      obtain ⟨x, hx, hxs, -⟩ := honHead.board
      obtain ⟨hkeeps, hy, -⟩ := applyAnswer_wait outcome bound (hnone honHead)
      exact ⟨hkeeps, x, (congrFun (congrFun hy _) _).trans hx, hxs⟩
  obtain ⟨x, hx, hxs, -, -, hdest⟩ := honHead.board
  obtain ⟨-, hy, hraised, hwait⟩ := applyAnswer_wait (ref := r.boardRef) outcome bound (hnone honHead)
  refine ⟨u, x, hu, (congrFun (congrFun (hboard.trans hy) _) _).trans hx, hxs, hpickCarried, hserved, hhead, hdest,
    hmotion, hsent, ?_, ?_⟩
  · rw [hflags, hraised, flagged_flags, flagged_flags, honHead.same.flags]
    rfl
  · rw [hroute, hwait, show S.route = s.route from honHead.same.route, show S.product = s.product from honHead.same.product]
    rfl

end

/-! ## The hold lost during the pass (R134) -/

@[simp] theorem updPick_board? (f : PickRec → PickRec) : (s.updPick f).board? = s.board? := rfl
@[simp] theorem returnEmpty_mode (s : State) : (returnEmpty s).mode = s.mode := mode_of_fixed (returnEmpty_fixed s)
@[simp] theorem returnEmpty_withdrawing (s : State) : (returnEmpty s).withdrawing = s.withdrawing := by
  unfold returnEmpty startMotion; split <;> rfl

/-- R134: a HELD board severed with its hold lost is DROPPED, DROP is set, and the head returns empty. -/
theorem heldOutcome_dropped (hl : s.pick.holdLost = true) (hb : s.board? ref.job ref.board = some x) (hst : x.state = .held) :
    let v := heldOutcome ref .severed s
    v.mode = s.mode ∧ v.withdrawing = s.withdrawing ∧
      v.board? ref.job ref.board = some (enterBoardState .dropped x) ∧ v.link.flags.drop = true ∧
      v.pick.head = .returning ∧ v.pick.served = none ∧ v.pick.demand = false := by
  have hboard := boardEvent_board? (s.updPick fun p => { p with heldPass := false, holdLost := false }) (e := .severedUnheld) hb
    (by rw [hst]; rfl)
  have hview := boardEvent_headView (s.updPick fun p => { p with heldPass := false, holdLost := false }) (tag := ref.job)
    (i := ref.board) (e := .severedUnheld) (st := .dropped) (by
      rw [State.boardState, updPick_board?, hb, Option.map_some, hst]
      rfl)
  have hwithdrawing := (congrArg HeadView.withdrawing hview).trans (updBoard_withdrawing _ _ _ _)
  simp only [heldOutcome, hl, if_true, returnEmpty_mode, returnEmpty_withdrawing, returnEmpty_board?, returnEmpty_link,
    returnEmpty_pick, leaveHoldList_board?]
  refine ⟨(raiseFlag_mode _ _).trans (boardEvent_mode _ _ _ _),
    (congrArg HeadView.withdrawing (raiseFlag_headView _ _)).trans hwithdrawing, ?_, raiseFlag_flags_get .drop, rfl, rfl, rfl⟩
  rw [raiseFlag_board?, hboard]

/-- R134: the step that drops the board. -/
theorem HeldPass.drops (h : HeldPass s r b recipe) (hl : s.pick.holdLost = true) :
    ∃ u x, exec (.passCompletion r.req .clean false) s = .next u ∧ u.board? r.job r.board = some x ∧ x.state = .dropped ∧
      x.dest = .none ∧ u.link.flags.drop = true ∧ u.pick.head = .returning ∧ u.pick.served = none ∧
      u.pick.demand = false := by
  obtain ⟨rep, after, hclean⟩ := h.exec_clean
  have hsame := counted_same (s := beginStep s) (r := r) rep after
  have hlost : ((beginStep s).counted r rep after).pick.holdLost = true :=
    (congrArg PickRec.holdLost (queueReport_pick _ rep)).trans hl
  obtain ⟨hmode, hwithdrawing, hboard, hflag, hhead, hserved, hdemand⟩ :=
    heldOutcome_dropped (ref := r.boardRef) hlost (counted_board? (s := beginStep s) rep after h.board) h.boardHeld
  obtain ⟨u, hu, hview, -⟩ := hclean _ rfl (hmode.trans hsame.mode) (hwithdrawing.trans hsame.withdrawing) (by
    rw [State.boardState, show State.board? _ r.job r.board = _ from hboard, Option.map_some, enterBoardState_state]
    simp)
  exact ⟨u, _, hu, (congrFun (congrFun (congrArg HeadView.board? hview) _) _).trans hboard, rfl, rfl,
    (congrArg (fun v => v.flags.drop) hview).trans hflag, (congrArg (fun v => v.pick.head) hview).trans hhead,
    (congrArg (fun v => v.pick.served) hview).trans hserved, (congrArg (fun v => v.pick.demand) hview).trans hdemand⟩

/-- Settles O48: the direct pass, the ranged pass, no place found, the tray, and the hold lost. -/
theorem severedBoardRouted : Obligations.SeveredBoardRouted := by
  intro s r j b t recipe hpass hstate hheld hmode hjob hseq hj hcause hb hbs ht hrecipe
  have h : HeldPass s r b recipe :=
    { pass := hpass, inPass := hstate, held := hheld, mode := by rw [hmode]; exact nofun
      staying := by simp [State.withdrawing, hj, hcause]
      board := hb, boardHeld := hbs, tab := ⟨t, ht⟩, recipe := hrecipe }
  refine ⟨fun hl hd hx => ?claims, fun hl hdx => ?tray, fun hl => h.drops hl⟩
  case claims =>
    have hanswer : s.answer r.boardRef b recipe.hc = claimAnswer (s.product r.job r.board) recipe.hc s := by
      simp [State.answer, hd, hx, PassRec.boardRef]
    refine ⟨fun o hfirst hn => ?direct, fun hnoDirect => ⟨fun o hfirst hn => ?ranged, fun hnoRanged hw => ?_⟩⟩
    case direct =>
      have ⟨_, _, ho, _⟩ := hfirst
      exact h.toRun hmode hl (hanswer.trans (claimAnswer_direct hfirst)) (tryEntry_free ho hn)
    case ranged =>
      have ⟨_, _, ho, _⟩ := hfirst
      exact h.toRun hmode hl (hanswer.trans (claimAnswer_ranged hnoDirect hfirst)) (tryEntry_free ho hn)
    obtain ⟨hfull, hopen⟩ := claimAnswer_none hnoDirect hnoRanged
    refine ⟨fun hf => h.waits hmode hl hw (hanswer.trans (hfull hf)), fun hf hno => ?unclaimed, fun hf ht hp => ?toTray⟩
    case unclaimed =>
      exact h.waits hmode hl hw (hanswer.trans ((hopen hf).trans (if_neg (by rcases hno with hno | hno <;> simp [hno]))))
    have htray := hanswer.trans ((hopen hf).trans (if_pos (by simp [ht, hp])))
    exact ⟨fun hc => h.toTray hmode hl (htray.trans (trayAnswer_room ht hc)),
      fun hc => h.waits hmode hl hw (htray.trans (trayAnswer_full ht hc))⟩
  case tray =>
    have hanswer : s.answer r.boardRef b recipe.hc = trayAnswer s := by
      unfold State.answer
      exact if_pos (by rcases hdx with h | h <;> simp [h])
    exact ⟨fun ht hc => h.toTray hmode hl (hanswer.trans (trayAnswer_room ht hc)),
      fun hw ht hc => h.waits hmode hl hw (hanswer.trans (trayAnswer_full ht hc)),
      fun hw ht => h.waits hmode hl hw (hanswer.trans (trayAnswer_unused ht))⟩

end Sys2Proof.Machine
end

section
/-! SUPPORT. A request that queues no report, and a waiting board resolved again (R153). -/

namespace Sys2Proof.Machine

variable {s after : State} {f : Frame} {rest : List Frame} {c : Instr} {sent : List DriveMsg}

/-! ## Requests that queue no report -/

section
variable {names : Frame → Bool} {α : Type} {read : Reader α} {owner : α → State → Handled} {k : Byte} {p : List Byte} {x : α}
  {body : ReplyBody}

/-- A request outside PARKED that reads whole, and whose owner makes the records of `after`, sends `sent` and leaves the link
alone, is answered so. -/
theorem answers_quiet (hx : exec c s = request names (guarded read owner) s) (ha : Asks s f rest k p) (hn : names f = true)
    (hm : s.mode.mode ≠ .parked) (hp : whole read p = some x)
    (ho : owner x (takeFrame rest (beginStep s)) = { state := after.withSent sent, body := body })
    (hlink : after.link = (takeFrame rest s).link) : Answers c s f body after [] sent :=
  answers_toolReports (l := []) hx ha hn hm hp ho hlink

/-- R203, step 2: in PARKED a request is refused, and nothing changes. -/
theorem answers_parked (hx : exec c s = request names (guarded read owner) s) (ha : Asks s f rest k p) (hn : names f = true)
    (hm : s.mode.mode = .parked) : Answers c s f (.refused .parked) (takeFrame rest s) [] [] :=
  answers_plain (hx.trans (request_answers ha.1 hn (guarded_parked hm))) rfl rfl rfl rfl rfl rfl rfl rfl rfl

end

/-- R129: within a step, the records of a motion called for and its request. -/
theorem startMotion_withSent (k : MotionKind) (u : State) (l : List DriveMsg) :
    startMotion k (u.withSent l) = (u.headed u.pick k).withSent (l ++ motionSent k (motionRequest k u) u) := by
  rw [startMotion_eq, headed_withSent]
  rfl

@[simp] theorem headed_route (u : State) (p : PickRec) (k : MotionKind) : (u.headed p k).route = u.route := by
  unfold State.headed; dsimp only; split <;> rfl

/-! ## The board that waits (R153) -/

variable {ref : BoardRef} {b : BoardRec} {w : WaitRec}

theorem retryWait_none (h : s.route.wait = none) : retryWait s = s := by simp only [retryWait, h]

theorem retryWait_claims (s : State) : (retryWait s).route.claims = s.route.claims :=
  congrArg Fixed.claims (retryWait_fixed s)

/-- R148: a damaged or X-out board is tray-bound. -/
theorem resolve_trayBound (hb : s.board? ref.job ref.board = some b) (hd : b.damage = true ∨ b.xout = true) :
    resolve ref s = trayAnswer s := by
  have hbound : (b.damage || b.xout) = true := by simpa using hd
  simp [resolve, hb, hbound]

/-- R153, R149: with room in the tray a waiting tray-bound board is sent there. -/
theorem retryWait_toTray (hw : s.route.wait = some w) (hb : s.board? w.ref.job w.ref.board = some b)
    (hd : b.damage = true ∨ b.xout = true) (ht : s.mode.options.tray = true) (hroom : s.route.trayCount < 40) :
    retryWait s = startMotion .transfer (applyAnswer w.ref .tray s) := by
  simp only [retryWait, hw, (resolve_trayBound hb hd).trans (trayAnswer_room ht hroom)]

end Sys2Proof.Machine
end

section
/-! SET CLAIM and GET CLAIMS (R146, R147). -/

namespace Sys2Proof.Machine

variable {s : State} {i : Fin 8} {e : ClaimEntry}

theorem exec_setClaim : exec .setClaim s = request (ofKind 0x18#8) (guarded rawClaim handleSetClaim) s := rfl

theorem exec_getClaims : exec .getClaims s = request (ofKind 0x19#8) (guarded noFields fun _ => handleGetClaims) s := rfl

/-! ## The entry as it is received -/

/-- The fields of SET CLAIM for an entry and its place. -/
def ClaimEntry.raw (i : Fin 8) (e : ClaimEntry) : RawClaim :=
  { index := i.val, enabled := if e.enabled then 1 else 0, low := e.low, high := e.high, bay := e.bay.val, zone := e.zone,
    exactOnly := if e.exactOnly then 1 else 0 }

theorem entry_raw (i : Fin 8) (e : ClaimEntry) : (e.raw i).entry = e := by
  obtain ⟨enabled, low, high, bay, zone, exactOnly⟩ := e
  cases enabled <;> cases exactOnly <;> simp [ClaimEntry.raw, RawClaim.entry]

/-- R203: an entry whose fields fit their bytes is read back with its place. -/
theorem whole_encClaim (hz : e.zone < 256) (hl : e.low < 65536) (hh : e.high < 65536) :
    whole rawClaim (enc1 i.val ++ encClaim e) = some (e.raw i) := by
  have hi : i.val < 256 := by omega
  have hb : e.bay.val < 256 := by omega
  have hlast : byte1 (encBool e.exactOnly) = some (if e.exactOnly then 1 else 0, []) := by
    simpa using byte1_encBool [] e.exactOnly
  refine whole_of ?_
  simp [rawClaim, encClaim, byte1_enc1, byte2_enc2, byte1_encBool, hlast, hi, hb, hz, hl, hh, ClaimEntry.raw]

/-- A mark is received as 0 or 1. -/
theorem mark_le_one (x : Bool) : (if x then 1 else 0) ≤ 1 := by cases x <;> decide

/-- R146, step 2: a code range that is empty is the first bad field. -/
theorem checkClaim_emptyRange (hl : 1 ≤ e.low) (hl' : e.low ≤ 4095) (h : e.high < e.low) :
    checkClaim (e.raw i) = some (field 4) := by
  have hi : i.val ≤ 7 := by omega
  cases hin : within 1 4095 e.high <;>
    simp [checkClaim, firstBad, ClaimEntry.raw, within_iff, mark_le_one, hi, hl, hl', hin, Nat.not_le.mpr h]

/-- R146, step 2: an entry within its ranges passes the checks. -/
theorem checkClaim_inRange (hz : e.zone ≤ 3) (hl : 1 ≤ e.low) (hh : e.high ≤ 4095) (h : e.low ≤ e.high) :
    checkClaim (e.raw i) = none := by
  have hi : i.val ≤ 7 := by omega
  have hb : e.bay.val ≤ 3 := by omega
  have hl' : e.low ≤ 4095 := by omega
  have hh' : 1 ≤ e.high := by omega
  simp [checkClaim, firstBad_none_iff, ClaimEntry.raw, within_iff, mark_le_one, hi, hb, hz, hl, hl', hh, hh', h]

/-! ## The entry replaced -/

/-- R146: the table with one entry replaced whole. -/
def RouteRec.claimed (i : Fin 8) (e : ClaimEntry) (r : RouteRec) : RouteRec := { r with claims := r.claims.set i.val e i.isLt }

theorem setClaim_claimed (i : Fin 8) (e : ClaimEntry) : setClaim i.val e = RouteRec.claimed i e := by
  funext r
  have hset : r.claims.setIfInBounds i.val e = r.claims.set i.val e i.isLt := by
    ext k hk
    simp [Vector.getElem_setIfInBounds, Vector.getElem_set]
  simp only [setClaim, RouteRec.claimed, hset]

theorem handleSetClaim_refuses {x : FieldAt} (h : checkClaim (e.raw i) = some x) :
    handleSetClaim (e.raw i) s = refuseField x s := by simp only [handleSetClaim, h]

/-- R146, R153: the entry is replaced, and a waiting board resolved again. -/
theorem handleSetClaim_sets (h : checkClaim (e.raw i) = none) :
    handleSetClaim (e.raw i) s =
      accept (.claimSet e (retryWait (s.updRoute (RouteRec.claimed i e))).route.wait)
        (retryWait (s.updRoute (RouteRec.claimed i e))) := by
  simp only [handleSetClaim, h, entry_raw]
  rw [show (e.raw i).index = i.val from rfl, setClaim_claimed]

/-- R146: with no board waiting nothing follows from the replacement. -/
theorem handleSetClaim_noWait (h : checkClaim (e.raw i) = none) (hw : s.route.wait = none) :
    handleSetClaim (e.raw i) s = { state := s.updRoute (RouteRec.claimed i e), body := .ok (.claimSet e none) } := by
  have hstays : (s.updRoute (RouteRec.claimed i e)).route.wait = none := hw
  rw [handleSetClaim_sets h, retryWait_none hstays, hstays]
  rfl

/-- Settles O35: an empty code range refused, the entry replaced with and without a board that waits, and the record read. -/
theorem claimsSetAndRead : Obligations.ClaimsSetAndRead := by
  refine ⟨fun s f rest i e ha hm hz hl hl' hh => ?set, fun s f rest ha => ⟨fun hm => ?parked, fun hm => ?read⟩⟩
  case set =>
    have hn := Asks.ofKind ha
    have hp := whole_encClaim (i := i) (e := e) (by omega) (by omega) (by omega)
    refine ⟨fun hempty => ?_, fun hrange => ?_⟩
    · exact answers_quiet exec_setClaim ha hn hm hp (handleSetClaim_refuses (checkClaim_emptyRange hl hl' hempty)) rfl
    have hcheck := checkClaim_inRange (i := i) hz hl hh hrange
    refine ⟨⟨_, request_read exec_setClaim ha hn hm hp, ?_⟩, fun hw => ?_⟩
    · rw [finishStep_route, handleSetClaim_sets hcheck]
      exact retryWait_claims _
    · exact answers_quiet exec_setClaim ha hn hm hp (handleSetClaim_noWait hcheck hw) rfl
  case parked => exact answers_parked exec_getClaims ha (Asks.ofKind ha) hm
  case read => exact answers_quiet exec_getClaims ha (Asks.ofKind ha) hm whole_noFields rfl rfl

end Sys2Proof.Machine
end

section
/-! EMPTY TRAY (R155, R153). -/

namespace Sys2Proof.Machine

variable {s u : State} {w : WaitRec} {b : BoardRec}

theorem exec_emptyTray : exec .emptyTray s = request (ofKind 0x3B#8) (guarded noFields fun _ => handleEmptyTray) s := rfl

theorem handleEmptyTray_refuses (h : s.mode.options.tray = false ∨ s.route.trayInProgress = true) :
    handleEmptyTray s = refuse .wrongState s := if_pos (by rcases h with h | h <;> simp [h])

/-- R155: the count becomes 0, and a waiting board is resolved again; the reply shows the count before and that none waits. -/
theorem handleEmptyTray_empties (ht : s.mode.options.tray = true) (hp : s.route.trayInProgress = false)
    (hu : retryWait (s.updRoute fun r => { r with trayCount := 0 }) = u) (hw : u.route.wait = none) :
    handleEmptyTray s = { state := u, body := .ok (.trayEmptied s.route.trayCount none) } := by
  simp [handleEmptyTray, ht, hp, hu, hw, accept]

/-- R155, R152: the count is 0, and the board that waited is bound for the tray. -/
def State.emptiedInto (ref : BoardRef) (s : State) : State :=
  (s.updRoute fun r => { r with trayCount := 0, trayInProgress := true, wait := none }).updBoard ref.job ref.board fun b =>
    { b with dest := .tray, ranged := false }

theorem motionRequest_emptiedInto {ref : BoardRef} (hc : s.pick.carried = some ref)
    (hb : s.board? ref.job ref.board = some b) : motionRequest .transfer (s.emptiedInto ref) = .transfer .tray :=
  motionRequest_transfer (s := s.emptiedInto ref) hc (updBoard_board?_of (s := s.updRoute _) hb fun _ => rfl)

/-- R153: the emptied tray has room for the tray-bound board that waits on the head. -/
theorem retryWait_emptied (ht : s.mode.options.tray = true) (hw : s.route.wait = some w) (hc : s.pick.carried = some w.ref)
    (hb : s.board? w.ref.job w.ref.board = some b) (hd : b.damage = true ∨ b.xout = true) :
    retryWait ((s.withSent []).updRoute fun r => { r with trayCount := 0 }) =
      ((s.emptiedInto w.ref).headed s.pick .transfer).withSent (motionSent .transfer (.transfer .tray) s) := by
  have hroom : (0 : Nat) < 40 := by decide
  rw [retryWait_toTray (s := (s.withSent []).updRoute fun r => { r with trayCount := 0 }) hw hb hd ht hroom]
  have happly : applyAnswer w.ref .tray ((s.withSent []).updRoute fun r => { r with trayCount := 0 }) =
      (s.emptiedInto w.ref).withSent [] := rfl
  rw [happly, startMotion_withSent, motionRequest_emptiedInto hc hb]
  rfl

/-- Settles O36: the refusal, no board waiting, and a tray-bound board waiting on the head. -/
theorem trayEmptied : Obligations.TrayEmptied := by
  intro s f rest ha hm
  have hn := Asks.ofKind ha
  refine ⟨fun href => ?refused, fun ht hp => ⟨fun hw => ?noWait, fun w b hw hc hb hd => ?waits⟩⟩
  case refused => exact answers_quiet exec_emptyTray ha hn hm whole_noFields (handleEmptyTray_refuses href) rfl
  case noWait =>
    have howner := handleEmptyTray_empties (s := takeFrame rest (beginStep s)) ht hp (retryWait_none hw) hw
    exact answers_quiet exec_emptyTray ha hn hm whole_noFields howner rfl
  case waits =>
    have hretry := retryWait_emptied (s := takeFrame rest s) ht hw hc hb hd
    have howner := handleEmptyTray_empties (s := takeFrame rest (beginStep s)) ht hp hretry
      (congrArg RouteRec.wait (headed_route _ _ _))
    exact answers_quiet exec_emptyTray ha hn hm whole_noFields howner headed_link

end Sys2Proof.Machine
end
